-- ==== Sys2Proof/Word.lean ====
section
/-! DEFINITION. The words of the block: 32-bit words, 16-bit halves, 8-bit bytes (spec/00_scope.md R11), and
channel numbers 0 to 6 (spec/10_state.md R20). -/

namespace Sys2Proof

/-- A word is 32 bits (R11). -/
abbrev Word := BitVec 32

/-- A half is 16 bits (R11). -/
abbrev Half := BitVec 16

/-- A byte is 8 bits (R11). -/
abbrev Byte := BitVec 8

/-- A DMA channel number, the port 0 to 6; there is no channel 7 (R20). -/
abbrev Chan := Fin 7

end Sys2Proof
end

