-- ==== Sys2Proof/Syntax.lean ====
section
/-! DEFINITION. The operations of the block as syntax: one constructor of `Instr` per row of spec/opcode_table.json;
and the requests by which an outside agent asks for one (spec/00_scope.md R10). -/

namespace Sys2Proof

/-- The drawing context a polygon captures at `Begin` (42_gpu_polygon.md R210). -/
structure PolyCtx where
  ditherEnable : Bool
  globalBlend : BitVec 2
deriving DecidableEq, Repr

/-- The drawing context the command source supplies at `Begin` (10_state.md R49). -/
structure DrawCtx where
  ditherEnable : Bool
  globalBlend : BitVec 2
  page : Half
  depth : BitVec 2
deriving DecidableEq, Repr

/-- One axis deflection, the rational `num / den`; a denominator of 0 stands for "not a number" (45_pad_input.md R318, R310). -/
structure AxisValue where
  num : Int
  den : Nat
deriving DecidableEq, Repr

/-- A snapshot of the external input device (45_pad_input.md R310): its name, the indices of the buttons held down
(an index that is not listed is not held, R323), and its axes: the listed ones, and the value of every other index, if the
snapshot reports them at all (Log 13). -/
structure Snapshot where
  name : String
  down : List Nat
  axes : List (Nat × AxisValue)
  restAxes : Option AxisValue
deriving DecidableEq, Repr

/-- The dialogue mode of the pad (10_state.md R54). -/
inductive PadMode where
  | normal
  | config
deriving DecidableEq, Repr

/-- The operations of the block, one constructor per row of spec/opcode_table.json. `n` is a channel, `v`, `h`, `b` the
value written, `k` the byte of a register (`addr[1:0]`), `c0` the colour of the command word, `p`, `t`, `c` the position,
UV and colour words of a vertex, `dim` the dimension word, `d` the bytes a serial master sends. -/
inductive Instr where
  -- Bus operations on the DMA register window (30_encoding.md R100, R136).
  | rd32Base (n : Chan)
  | wr32Base (n : Chan) (v : Word)
  | rd16Base (n : Chan)
  | wr16Base (n : Chan) (h : Half)
  | wr32Block (n : Chan) (v : Word)
  | rd32Block (n : Chan)
  | rd16Block (n : Chan)
  | wr16Block (n : Chan) (h : Half)
  | rd32Ctrl (n : Chan)
  | wr32Ctrl (n : Chan) (v : Word)
  | rd16Ctrl (n : Chan)
  | wr16Ctrl (n : Chan) (h : Half)
  | rd8Base (n : Chan) (k : BitVec 2)
  | wr8Base (n : Chan) (k : BitVec 2) (b : Byte)
  | rd8Block (n : Chan) (k : BitVec 2)
  | wr8Block (n : Chan) (k : BitVec 2) (b : Byte)
  | rd8Ctrl (n : Chan) (k : BitVec 2)
  | wr8Ctrl (n : Chan) (k : BitVec 2) (b : Byte)
  | rd32Dpcr
  | wr32Dpcr (v : Word)
  | rd16Dpcr
  | wr16Dpcr (h : Half)
  | rd32Dicr
  | wr32Dicr (v : Word)
  | rd16DicrL
  | rd16DicrH
  | wr16DicrL (h : Half)
  | wr16DicrH (h : Half)
  | rd8Dicr0
  | rd8Dicr1
  | rd8Dicr2
  | rd8Dicr3
  | wr8Dicr0 (b : Byte)
  | wr8Dicr1 (b : Byte)
  | wr8Dicr2 (b : Byte)
  | wr8Dicr3 (b : Byte)
  -- Side-band operations of DMA (R137).
  | setIrq (n : Nat)
  | hasIrq
  | irqEn (n : Nat)
  | doneCh (n : Nat)
  | triggerCh (n : Nat)
  -- Operations of the primitive assembler (R138).
  | beginPrim (w0 : Word) (ctx : DrawCtx)
  | addWord (w : Word)
  | ready
  | draw
  -- Polygon primitives: the whole command stream of one polygon, top byte 0x20 to 0x3F (R134, 42_gpu_polygon.md section 5).
  | polyF3 (ctx : PolyCtx) (c0 : BitVec 24) (p0 p1 p2 : Word)
  | polyF3R (ctx : PolyCtx) (c0 : BitVec 24) (p0 p1 p2 : Word)
  | polyF3S (ctx : PolyCtx) (c0 : BitVec 24) (p0 p1 p2 : Word)
  | polyF3SR (ctx : PolyCtx) (c0 : BitVec 24) (p0 p1 p2 : Word)
  | polyF3T (ctx : PolyCtx) (c0 : BitVec 24) (p0 t0 p1 t1 p2 t2 : Word)
  | polyF3TR (ctx : PolyCtx) (c0 : BitVec 24) (p0 t0 p1 t1 p2 t2 : Word)
  | polyF3TS (ctx : PolyCtx) (c0 : BitVec 24) (p0 t0 p1 t1 p2 t2 : Word)
  | polyF3TSR (ctx : PolyCtx) (c0 : BitVec 24) (p0 t0 p1 t1 p2 t2 : Word)
  | polyF4 (ctx : PolyCtx) (c0 : BitVec 24) (p0 p1 p2 p3 : Word)
  | polyF4R (ctx : PolyCtx) (c0 : BitVec 24) (p0 p1 p2 p3 : Word)
  | polyF4S (ctx : PolyCtx) (c0 : BitVec 24) (p0 p1 p2 p3 : Word)
  | polyF4SR (ctx : PolyCtx) (c0 : BitVec 24) (p0 p1 p2 p3 : Word)
  | polyF4T (ctx : PolyCtx) (c0 : BitVec 24) (p0 t0 p1 t1 p2 t2 p3 t3 : Word)
  | polyF4TR (ctx : PolyCtx) (c0 : BitVec 24) (p0 t0 p1 t1 p2 t2 p3 t3 : Word)
  | polyF4TS (ctx : PolyCtx) (c0 : BitVec 24) (p0 t0 p1 t1 p2 t2 p3 t3 : Word)
  | polyF4TSR (ctx : PolyCtx) (c0 : BitVec 24) (p0 t0 p1 t1 p2 t2 p3 t3 : Word)
  | polyG3 (ctx : PolyCtx) (c0 : BitVec 24) (p0 c1 p1 c2 p2 : Word)
  | polyG3R (ctx : PolyCtx) (c0 : BitVec 24) (p0 c1 p1 c2 p2 : Word)
  | polyG3S (ctx : PolyCtx) (c0 : BitVec 24) (p0 c1 p1 c2 p2 : Word)
  | polyG3SR (ctx : PolyCtx) (c0 : BitVec 24) (p0 c1 p1 c2 p2 : Word)
  | polyG3T (ctx : PolyCtx) (c0 : BitVec 24) (p0 t0 c1 p1 t1 c2 p2 t2 : Word)
  | polyG3TR (ctx : PolyCtx) (c0 : BitVec 24) (p0 t0 c1 p1 t1 c2 p2 t2 : Word)
  | polyG3TS (ctx : PolyCtx) (c0 : BitVec 24) (p0 t0 c1 p1 t1 c2 p2 t2 : Word)
  | polyG3TSR (ctx : PolyCtx) (c0 : BitVec 24) (p0 t0 c1 p1 t1 c2 p2 t2 : Word)
  | polyG4 (ctx : PolyCtx) (c0 : BitVec 24) (p0 c1 p1 c2 p2 c3 p3 : Word)
  | polyG4R (ctx : PolyCtx) (c0 : BitVec 24) (p0 c1 p1 c2 p2 c3 p3 : Word)
  | polyG4S (ctx : PolyCtx) (c0 : BitVec 24) (p0 c1 p1 c2 p2 c3 p3 : Word)
  | polyG4SR (ctx : PolyCtx) (c0 : BitVec 24) (p0 c1 p1 c2 p2 c3 p3 : Word)
  | polyG4T (ctx : PolyCtx) (c0 : BitVec 24) (p0 t0 c1 p1 t1 c2 p2 t2 c3 p3 t3 : Word)
  | polyG4TR (ctx : PolyCtx) (c0 : BitVec 24) (p0 t0 c1 p1 t1 c2 p2 t2 c3 p3 t3 : Word)
  | polyG4TS (ctx : PolyCtx) (c0 : BitVec 24) (p0 t0 c1 p1 t1 c2 p2 t2 c3 p3 t3 : Word)
  | polyG4TSR (ctx : PolyCtx) (c0 : BitVec 24) (p0 t0 c1 p1 t1 c2 p2 t2 c3 p3 t3 : Word)
  -- Rectangle primitives, top byte 0x60 to 0x7F (R134, 43_gpu_rectangle.md section 3).
  | rectV (ctx : DrawCtx) (c0 : BitVec 24) (p0 dim : Word)
  | rectVR (ctx : DrawCtx) (c0 : BitVec 24) (p0 dim : Word)
  | rectVS (ctx : DrawCtx) (c0 : BitVec 24) (p0 dim : Word)
  | rectVSR (ctx : DrawCtx) (c0 : BitVec 24) (p0 dim : Word)
  | rectVT (ctx : DrawCtx) (c0 : BitVec 24) (p0 t0 dim : Word)
  | rectVTR (ctx : DrawCtx) (c0 : BitVec 24) (p0 t0 dim : Word)
  | rectVTS (ctx : DrawCtx) (c0 : BitVec 24) (p0 t0 dim : Word)
  | rectVTSR (ctx : DrawCtx) (c0 : BitVec 24) (p0 t0 dim : Word)
  | rect1 (ctx : DrawCtx) (c0 : BitVec 24) (p0 : Word)
  | rect1R (ctx : DrawCtx) (c0 : BitVec 24) (p0 : Word)
  | rect1S (ctx : DrawCtx) (c0 : BitVec 24) (p0 : Word)
  | rect1SR (ctx : DrawCtx) (c0 : BitVec 24) (p0 : Word)
  | rect1T (ctx : DrawCtx) (c0 : BitVec 24) (p0 t0 : Word)
  | rect1TR (ctx : DrawCtx) (c0 : BitVec 24) (p0 t0 : Word)
  | rect1TS (ctx : DrawCtx) (c0 : BitVec 24) (p0 t0 : Word)
  | rect1TSR (ctx : DrawCtx) (c0 : BitVec 24) (p0 t0 : Word)
  | rect8 (ctx : DrawCtx) (c0 : BitVec 24) (p0 : Word)
  | rect8R (ctx : DrawCtx) (c0 : BitVec 24) (p0 : Word)
  | rect8S (ctx : DrawCtx) (c0 : BitVec 24) (p0 : Word)
  | rect8SR (ctx : DrawCtx) (c0 : BitVec 24) (p0 : Word)
  | rect8T (ctx : DrawCtx) (c0 : BitVec 24) (p0 t0 : Word)
  | rect8TR (ctx : DrawCtx) (c0 : BitVec 24) (p0 t0 : Word)
  | rect8TS (ctx : DrawCtx) (c0 : BitVec 24) (p0 t0 : Word)
  | rect8TSR (ctx : DrawCtx) (c0 : BitVec 24) (p0 t0 : Word)
  | rect16 (ctx : DrawCtx) (c0 : BitVec 24) (p0 : Word)
  | rect16R (ctx : DrawCtx) (c0 : BitVec 24) (p0 : Word)
  | rect16S (ctx : DrawCtx) (c0 : BitVec 24) (p0 : Word)
  | rect16SR (ctx : DrawCtx) (c0 : BitVec 24) (p0 : Word)
  | rect16T (ctx : DrawCtx) (c0 : BitVec 24) (p0 t0 : Word)
  | rect16TR (ctx : DrawCtx) (c0 : BitVec 24) (p0 t0 : Word)
  | rect16TS (ctx : DrawCtx) (c0 : BitVec 24) (p0 t0 : Word)
  | rect16TSR (ctx : DrawCtx) (c0 : BitVec 24) (p0 t0 : Word)
  -- One byte exchange (R139).
  | xchg (d : Byte)
  -- Input polling and connectivity (R139).
  | poll (snap : Snapshot)
  | connect (c : Bool)
  -- Dialogues (R139, 44_pad_protocol.md section 4).
  | padNPoll (b0 : Byte) (data : List Byte)
  | padNCfg (data : List Byte)
  | padC42 (d1 d2 d3 d4 d5 d6 d7 : Byte)
  | padC43 (d1 d2 d3 d4 d5 d6 d7 : Byte)
  | padC44 (d1 d2 d3 d4 d5 d6 d7 : Byte)
  | padC45 (d1 d2 d3 d4 d5 d6 d7 : Byte)
  | padC46 (d1 d2 d3 d4 d5 d6 d7 : Byte)
  | padC47 (d1 d2 d3 d4 d5 d6 d7 : Byte)
  | padC4C (d1 d2 d3 d4 d5 d6 d7 : Byte)
  | padC4D (d1 d2 d3 d4 d5 d6 d7 : Byte)
deriving DecidableEq, Repr

/-- What an outside agent hands over on one of the block's interfaces (00_scope.md R10). A bus access is identified by its
direction, its width and its 32-bit address, and a write carries a value of that width (30_encoding.md R100); the calls
have no bit encoding of their own and carry their operands; a primitive is its word stream with the context of its
`Begin`; a dialogue is the bytes sent, with the mode its name gives (R139). Log 1 and Log 17. `traceTrigger` is no agent's call: it is the
name a trace gives to an invocation of the transfer engine (R137), and the machine refuses it outside a channel-control write (Log 25). -/
inductive Request where
  | busRead8 (addr : Word)
  | busRead16 (addr : Word)
  | busRead32 (addr : Word)
  | busWrite8 (addr : Word) (value : Byte)
  | busWrite16 (addr : Word) (value : Half)
  | busWrite32 (addr : Word) (value : Word)
  | callSetIrq (n : Nat)
  | callHasIrq
  | callIsIrqEnabled (n : Nat)
  | callDone (n : Nat)
  | traceTrigger (n : Nat)
  | gpaBegin (w0 : Word) (ctx : DrawCtx)
  | gpaAdd (w : Word)
  | gpaIsReady
  | gpaDraw
  | primitive (ctx : DrawCtx) (words : List Word)
  | exchange (d : Byte)
  | readInput (snap : Snapshot)
  | setConnected (c : Bool)
  | dialogue (mode : PadMode) (bytes : List Byte)
deriving DecidableEq, Repr

/-- What can reach the block from outside: an operation of an agent, or the platform binding the transfer engine
(70_reset_and_hazards.md R383; Log 6). -/
inductive Input where
  | operation (r : Request)
  | bindEngine (agent : Nat)
deriving DecidableEq, Repr

end Sys2Proof
end

