-- ==== Sys2Proof/Machine/State.lean ====
section
/-! DEFINITION. The state of the three units (spec/10_state.md), as plain data, the model's own record of inputs and outputs beside it
(Log 1, Log 4), the reasons a step can stop, and the state after reset (spec/70_reset_and_hazards.md R370 to R375). -/

namespace Sys2Proof.Machine

/-! ## DMA -/

/-- The three legal sync modes, values 0, 1, 2; value 3 is never stored (R24). -/
inductive SyncMode where
  | manual
  | request
  | linkedList
deriving DecidableEq, Repr

/-- One DMA channel (R20 to R32). -/
structure Channel where
  /-- R21: `true` is 1, memory to device. -/
  direction : Bool
  /-- R22: `true` is 1, decrement. -/
  step : Bool
  /-- R23. -/
  chop : Bool
  /-- R24. -/
  sync : SyncMode
  /-- R25. -/
  chopDmaWin : BitVec 3
  /-- R26. -/
  chopCpuWin : BitVec 3
  /-- R27. -/
  enabled : Bool
  /-- R28. -/
  trigger : Bool
  /-- R29. -/
  readWrite : BitVec 2
  /-- R30. -/
  base : BitVec 24
  /-- R31: an integer in 1..0x10000. -/
  blockSize : Nat
  /-- R32: an integer in 1..0x10000. -/
  blockCount : Nat
deriving DecidableEq, Repr

/-- The DMA unit (R20, R35 to R43). -/
structure Dma where
  /-- The channels, by port number (R20). -/
  ch : Vector Channel 7
  /-- R35. -/
  dpcr : Word
  /-- R37. -/
  cic : BitVec 7
  /-- R38. -/
  busError : Bool
  /-- R39: bit `n` belongs to channel `n`. -/
  mask : BitVec 7
  /-- R40. -/
  masterEnable : Bool
  /-- R41: bit `n` belongs to channel `n`. -/
  flags : BitVec 7
  /-- R43(a): the bound transfer engine, an agent known by a number (Log 6). -/
  engine : Option Nat
  /-- R43(b): a transfer engine invocation is in progress. -/
  inCallback : Bool
  /-- The model's own: the channel whose control write has stored its fields, found it active and is to invoke the transfer engine; `none`
  but inside that write (41_dma_global_irq_trigger.md R195, R196; Log 25). -/
  dispatching : Option Chan
deriving DecidableEq, Repr

/-! ## GPA -/

/-- The arrays of a decoded polygon (R50): colours, raw position words, raw UV words (empty when not textured). -/
structure PolyArrays where
  color : List (BitVec 24)
  pos : List Word
  uvw : List Word
deriving DecidableEq, Repr

/-- A polygon under assembly (R45, R46, R49, R50). -/
structure Polygon where
  gouraud : Bool
  quad : Bool
  vc : Nat
  textured : Bool
  semi : Bool
  raw : Bool
  expected : Nat
  ctx : PolyCtx
  /-- R50: the flag `decoded` and the arrays it guards; `none` is `decoded = 0`. -/
  decoded : Option PolyArrays
deriving DecidableEq, Repr

/-- The size class of a rectangle (R47). -/
inductive SizeClass where
  | variable
  | one
  | eight
  | sixteen
deriving DecidableEq, Repr

/-- A rectangle under assembly (R46, R47, R49). -/
structure Rectangle where
  size : SizeClass
  textured : Bool
  semi : Bool
  raw : Bool
  expected : Nat
  ctx : DrawCtx
deriving DecidableEq, Repr

/-- The primitive under assembly (R44). -/
inductive Prim where
  | none
  | polygon (p : Polygon)
  | rectangle (r : Rectangle)
deriving DecidableEq, Repr

/-- The draw-primitive assembler (R44, R48). -/
structure Gpa where
  prim : Prim
  buf : List Word
deriving DecidableEq, Repr

/-! ## PAD -/

/-- A deferred mode switch (R59). -/
inductive PendingSwitch where
  | none
  | toConfig
  | toNormal
deriving DecidableEq, Repr

/-- The controller protocol state (R53 to R64). -/
structure Pad where
  /-- R53. -/
  connected : Bool
  /-- R54. -/
  mode : PadMode
  /-- R55. -/
  cmd : Byte
  /-- R56: the step of the next exchange. -/
  seq : Nat
  /-- R57. -/
  ack : Bool
  /-- R58: active low. -/
  buttons : Half
  /-- R59. -/
  pendingSwitch : PendingSwitch
  /-- R60. -/
  rightX : Byte
  /-- R60. -/
  rightY : Byte
  /-- R60. -/
  leftX : Byte
  /-- R60. -/
  leftY : Byte
  /-- R61. -/
  led : Byte
  /-- R61. -/
  ledPending : Byte
  /-- R62. -/
  analog : Bool
  /-- R63. -/
  rumble : Vector Byte 6
  /-- R64(a). -/
  chordPrev : Bool
  /-- R64(b). -/
  sel : Byte
deriving DecidableEq, Repr

/-! ## Outputs of the block -/

/-- The texture mode of a record (R52): none, or the two bits of the page or context. -/
inductive TexMode where
  | untextured
  | mode (m : BitVec 2)
deriving DecidableEq, Repr

/-- The transparency mode of a record (R52): opaque, or a blend mode. -/
inductive TransMode where
  | solid
  | blend (m : BitVec 2)
deriving DecidableEq, Repr

/-- One output record of the assembler (R52); `x` and `y` are read as signed. -/
structure VertexInfo where
  x : Half
  y : Half
  r : Byte
  g : Byte
  b : Byte
  u : Half
  v : Half
  clut : Half
  page : Half
  texMode : TexMode
  dither : Bool
  transMode : TransMode
deriving DecidableEq, Repr

/-- Three records handed to the renderer together (00_scope.md R14). -/
structure Triangle where
  a : VertexInfo
  b : VertexInfo
  c : VertexInfo
deriving DecidableEq, Repr

/-- The four error kinds with what each records (60_exceptions.md R330 to R334). -/
inductive ErrorKind where
  | unhandledAddress (addr : Word)
  | invalidConfiguration (n : Chan) (v : Word)
  | unrecognizedConfigCommand (cmd : Byte)
  | unknownSequenceStep (seq : Nat)
deriving DecidableEq, Repr

/-- An entry of the diagnostic log (R362): the recoverable error kind, or an unrecognised device name (45_pad_input.md R312). -/
inductive LogEntry where
  | report (e : ErrorKind)
  | unknownDevice (name : String)
deriving DecidableEq, Repr

/-- The response byte and acknowledge of one exchange (44_pad_protocol.md R260). -/
structure PadReply where
  resp : Byte
  ack : Bool
deriving DecidableEq, Repr

/-- What an operation hands back to the agent that performed it (60_exceptions.md R337). -/
inductive Result where
  /-- No operation has been performed yet. -/
  | nothing
  /-- The operation has completed and returns no value. -/
  | completed
  | byte (v : Byte)
  | half (v : Half)
  | word (v : Word)
  | bit (v : Bool)
  | pad (r : PadReply)
  /-- The replies to a dialogue's bytes, in order, and the error that ended it if one did. -/
  | dialogue (replies : List PadReply) (error : Option ErrorKind)
  /-- The operation ended with an error in place of its value. -/
  | error (e : ErrorKind)
deriving DecidableEq, Repr

/-- One invocation of the transfer engine (41_dma_global_irq_trigger.md R196): the port it was passed, and DMA as it stood during the
invocation, which is all the engine may read (R200; Log 27): the channel with its fields as just written, the test whether it is active,
its mask bit, the global registers. -/
structure EngineCall where
  port : Chan
  dma : Dma
deriving DecidableEq, Repr

/-! ## The whole state -/

/-- The state of the block, and the model's own record of what its agents hand in and get back (Log 1, Log 4). -/
structure State where
  dma : Dma
  gpa : Gpa
  pad : Pad
  /-- The model's own: the inputs still to come, in order. -/
  pending : List Input
  /-- The model's own: what the latest operation handed back. -/
  result : Result
  /-- The model's own: the triangles emitted so far, in order. -/
  toRenderer : List Triangle
  /-- The model's own: the transfer engine invocations so far, in order. -/
  engineCalls : List EngineCall
  /-- The model's own: the diagnostic log. -/
  log : List LogEntry
deriving DecidableEq, Repr

/-! ## Why a step can stop -/

/-- The machine never stops with a fault: the spec's fatal errors are results of operations and the block goes on
(60_exceptions.md R337, R348; Log 3). No constructor, so nothing raises one. -/
inductive Fault where
deriving DecidableEq, Repr

/-- Uses outside the contract of an interface, which the spec refuses and gives no meaning (00_scope.md R12; 93 part 1). -/
inductive Refusal where
  /-- An arm of `exec` without a meaning. No arm answers it. Safe. -/
  | notModelled (mnemonic : String)
  /-- Raised by `SETIRQ`, `DONE`, `IRQEN`, `TRIGGER` on a channel above 6 (41 R194, U9). Safe. -/
  | noSuchChannel (n : Nat)
  /-- Raised by an activating channel-control write, at the invocation `TRIGGER` names, with no transfer engine bound (41 R202, U10). Safe. -/
  | noEngineBound
  /-- Raised by a bus write during a transfer engine invocation (70 R390, U12; Log 7). Safe. -/
  | busWriteInCallback
  /-- Raised by `TRIGGER` during a transfer engine invocation (70 R390, U12; Log 7). Safe. -/
  | nestedTrigger
  /-- Raised by `TRIGGER` where no channel-control write is dispatching that channel, active as it left it: no agent issues the
  invocation, and there is none without a write (30 R137, 41 R195, R196; Log 25). Safe. -/
  | noDispatchingWrite (n : Chan)
  /-- Raised by `BEGIN`, and by the step on a primitive stream, for a first word that spells no primitive (30 R132, U3). Safe. -/
  | notAPrimitive (w0 : Word)
  /-- Raised by `ADD`, `READY`, `DRAW` before the first `BEGIN` (70 R394, U3). Safe. -/
  | noPrimitive
  /-- Raised by `ADD` when the primitive is ready (70 R392, U1). Safe. -/
  | addWhenReady
  /-- Raised by `DRAW` when the primitive is not ready (70 R393, U2). Safe. -/
  | drawNotReady
  /-- Raised by `POLL` of a recognised device whose profile reads an axis that is missing or outside [-1, 1] (45 R318, R323, U14). Safe. -/
  | axisOutsideContract
  /-- Raised by `XCHG` and dialogues in states no run reaches: Config mode, step 3 to 7, unknown command (44 R282; Log 18). Safe. -/
  | noRuleForPadStep
  /-- Raised by the step on a stream or dialogue that is no operation of the table (Log 1). Safe. -/
  | malformedRequest
deriving DecidableEq, Repr

/-- The outcome of an operation. -/
abbrev Out := Host.Outcome State Fault Refusal

/-! ## Reset -/

/-- A channel at reset (70 R371; the spec's D16, Log 8). -/
def Channel.reset : Channel :=
  { direction := false, step := false, chop := false, sync := .manual, chopDmaWin := 0, chopCpuWin := 0, enabled := false,
    trigger := false, readWrite := 0, base := 0, blockSize := 0x10000, blockCount := 0x10000 }

/-- DMA at reset (70 R371 to R373): `dpcr` is the source's value, the others are the spec's D14, D16, D17 (Log 8). -/
def Dma.reset : Dma :=
  { ch := Vector.replicate 7 Channel.reset, dpcr := 0x07654321, cic := 0, busError := false, mask := 0, masterEnable := false,
    flags := 0, engine := none, inCallback := false, dispatching := none }

/-- GPA at reset (70 R374; the spec's D36, Log 9). -/
def Gpa.reset : Gpa := { prim := .none, buf := [] }

/-- PAD at reset (70 R375; the spec's D55, Log 10). -/
def Pad.reset : Pad :=
  { connected := false, mode := .normal, cmd := 0, seq := 0, ack := false, buttons := 0xFFFF, pendingSwitch := .none, rightX := 0x80,
    rightY := 0x80, leftX := 0x80, leftY := 0x80, led := 0, ledPending := 0, analog := false, rumble := Vector.replicate 6 0xFF,
    chordPrev := false, sel := 0 }

/-- The machine right after reset (70 R370): no operation has been performed, none is pending. -/
def State.reset : State :=
  { dma := Dma.reset, gpa := Gpa.reset, pad := Pad.reset, pending := [], result := .nothing, toRenderer := [], engineCalls := [],
    log := [] }

end Sys2Proof.Machine
end

