-- ==== Sys2Proof/Config.lean ====
section
/-! DEFINITION. The parameters the spec leaves open (spec/00_scope.md R8), as constants with no value: a proof can lean on none of
them (Log 12). -/

namespace Sys2Proof

/-- One entry of `PAD_PROFILES` (45_pad_input.md R311): a partial injective map from button index to bit position, the four
axis indices, and the non-empty chord that toggles analog mode. -/
structure Profile where
  btn : List (Nat × Fin 16)
  btn_functional : (btn.map Prod.fst).Nodup
  btn_injective : (btn.map Prod.snd).Nodup
  iRX : Nat
  iRY : Nat
  iLX : Nat
  iLY : Nat
  chord : List Nat
  chord_nonempty : chord ≠ []

/-- `PAD_PROFILES`, OPEN: the finite map from device name to profile (R311). -/
opaque Config.padProfiles : List (String × Profile)

/-- `RECT_RAW_GRAY`, OPEN: whether a textured raw rectangle is drawn in neutral gray (43_gpu_rectangle.md R249). -/
opaque Config.rectRawGray : Bool

/-- `PAD_EXIT_ECHO`, OPEN: the byte Config-mode command 0x43 returns at step 2 when its data byte is 0 (44_pad_protocol.md R284). -/
opaque Config.padExitEcho : Byte

/-- The profile of a device name: the entry of `PAD_PROFILES`, none for an unrecognised device (R312). -/
def Config.profileOf (name : String) : Option Profile := Config.padProfiles.lookup name

end Sys2Proof
end

