-- ==== Sys2Proof/Decode.lean ====
section
/-! DEFINITION. Decoding a request into an operation (spec/30_encoding.md), total, rejecting by name; and the encoder, written from
the same tables. `decodeTableWord` reads a bare word of spec/opcode_table.json (Log 17). -/

namespace Sys2Proof

/-- Why a request is no operation of the table. -/
inductive DecodeError where
  /-- The address and width select no register: the step delivers `UnhandledAddress` for it (20_memory.md R72, R73, R79 to R81). -/
  | unhandledAddress (addr : Word)
  /-- The first word's top byte is outside 0x20..0x3F and 0x60..0x7F (30_encoding.md R132). -/
  | notAPrimitive (w0 : Word)
  /-- The stream does not hold the number of words the first word fixes (R134). -/
  | wrongWordCount (w0 : Word)
  /-- A stream with no first word. -/
  | emptyStream
  /-- The bytes are no dialogue of the table in that mode (R139). -/
  | notADialogue
deriving DecidableEq, Repr

/-! ## Bus address decode (R100, R101) -/

/-- The registers an address can select (20_memory.md R71). -/
inductive BusReg where
  | base (n : Chan)
  | block (n : Chan)
  | ctrl (n : Chan)
  | dpcr
  | dicr
deriving DecidableEq, Repr

/-- The window 0x1F801080..0x1F8010FF: `addr[31:7]` is that of its base (R71, R100). -/
def inWindow (addr : Word) : Bool := addr.extractLsb' 7 25 == 0x3F0021#25

/-- The field `channel` of an address, `(addr & 0x70) >> 4`; 7 is no channel (R101 steps 3 and 4). -/
def addrChannel (addr : Word) : Option Chan :=
  let c := ((addr &&& 0x70#32) >>> 4).toNat
  if h : c < 7 then some ⟨c, h⟩ else none

/-- Word decode, first match wins (R101; outside the window nothing is selected, R73). -/
def decodeWordAddr (addr : Word) : Option BusReg :=
  if addr = 0x1F8010F0#32 then some .dpcr
  else if addr = 0x1F8010F4#32 then some .dicr
  else if inWindow addr then
    match addrChannel addr with
    | none => none
    | some n =>
      let register := addr &&& 0xF#32
      if register = 0x0#32 then some (.base n)
      else if register = 0x4#32 then some (.block n)
      else if register = 0x8#32 then some (.ctrl n)
      else none
  else none

/-- The channel register that holds the byte at an address, with the byte's number `addr[1:0]` (rules R145, R150, R157 name these
accesses, all of them illegal); none for offsets 0xC to 0xF, channel 7 and addresses outside the window. -/
def decodeByteAddr (addr : Word) : Option (BusReg × BitVec 2) :=
  if inWindow addr then
    match addrChannel addr with
    | none => none
    | some n =>
      let k := addr.extractLsb' 0 2
      let group := addr &&& 0xC#32
      if group = 0x0#32 then some (.base n, k)
      else if group = 0x4#32 then some (.block n, k)
      else if group = 0x8#32 then some (.ctrl n, k)
      else none
  else none

/-- Reads of 32 bits (R101). -/
def decodeRead32 (addr : Word) : Except DecodeError Instr :=
  match decodeWordAddr addr with
  | some (.base n) => .ok (.rd32Base n)
  | some (.block n) => .ok (.rd32Block n)
  | some (.ctrl n) => .ok (.rd32Ctrl n)
  | some .dpcr => .ok .rd32Dpcr
  | some .dicr => .ok .rd32Dicr
  | none => .error (.unhandledAddress addr)

/-- Reads of 16 bits (R101; halves R80). -/
def decodeRead16 (addr : Word) : Except DecodeError Instr :=
  if addr = 0x1F8010F4#32 then .ok .rd16DicrL
  else if addr = 0x1F8010F6#32 then .ok .rd16DicrH
  else
    match decodeWordAddr addr with
    | some (.base n) => .ok (.rd16Base n)
    | some (.block n) => .ok (.rd16Block n)
    | some (.ctrl n) => .ok (.rd16Ctrl n)
    | some .dpcr => .ok .rd16Dpcr
    | some .dicr => .error (.unhandledAddress addr)
    | none => .error (.unhandledAddress addr)

/-- Reads of 8 bits (R101; bytes R81). -/
def decodeRead8 (addr : Word) : Except DecodeError Instr :=
  if addr = 0x1F8010F4#32 then .ok .rd8Dicr0
  else if addr = 0x1F8010F5#32 then .ok .rd8Dicr1
  else if addr = 0x1F8010F6#32 then .ok .rd8Dicr2
  else if addr = 0x1F8010F7#32 then .ok .rd8Dicr3
  else
    match decodeByteAddr addr with
    | some (.base n, k) => .ok (.rd8Base n k)
    | some (.block n, k) => .ok (.rd8Block n k)
    | some (.ctrl n, k) => .ok (.rd8Ctrl n k)
    | some (.dpcr, _) => .error (.unhandledAddress addr)
    | some (.dicr, _) => .error (.unhandledAddress addr)
    | none => .error (.unhandledAddress addr)

/-- Writes of 32 bits (R101). -/
def decodeWrite32 (addr : Word) (v : Word) : Except DecodeError Instr :=
  match decodeWordAddr addr with
  | some (.base n) => .ok (.wr32Base n v)
  | some (.block n) => .ok (.wr32Block n v)
  | some (.ctrl n) => .ok (.wr32Ctrl n v)
  | some .dpcr => .ok (.wr32Dpcr v)
  | some .dicr => .ok (.wr32Dicr v)
  | none => .error (.unhandledAddress addr)

/-- Writes of 16 bits (R101; halves R80). -/
def decodeWrite16 (addr : Word) (v : Half) : Except DecodeError Instr :=
  if addr = 0x1F8010F4#32 then .ok (.wr16DicrL v)
  else if addr = 0x1F8010F6#32 then .ok (.wr16DicrH v)
  else
    match decodeWordAddr addr with
    | some (.base n) => .ok (.wr16Base n v)
    | some (.block n) => .ok (.wr16Block n v)
    | some (.ctrl n) => .ok (.wr16Ctrl n v)
    | some .dpcr => .ok (.wr16Dpcr v)
    | some .dicr => .error (.unhandledAddress addr)
    | none => .error (.unhandledAddress addr)

/-- Writes of 8 bits (R101; bytes R81). -/
def decodeWrite8 (addr : Word) (v : Byte) : Except DecodeError Instr :=
  if addr = 0x1F8010F4#32 then .ok (.wr8Dicr0 v)
  else if addr = 0x1F8010F5#32 then .ok (.wr8Dicr1 v)
  else if addr = 0x1F8010F6#32 then .ok (.wr8Dicr2 v)
  else if addr = 0x1F8010F7#32 then .ok (.wr8Dicr3 v)
  else
    match decodeByteAddr addr with
    | some (.base n, k) => .ok (.wr8Base n k v)
    | some (.block n, k) => .ok (.wr8Block n k v)
    | some (.ctrl n, k) => .ok (.wr8Ctrl n k v)
    | some (.dpcr, _) => .error (.unhandledAddress addr)
    | some (.dicr, _) => .error (.unhandledAddress addr)
    | none => .error (.unhandledAddress addr)

/-! ## Primitives (R111 to R113, R134) -/

/-- A polygon word: `w0[31:29] = 0b001` (R111). -/
def isPolygonWord (w0 : Word) : Bool := w0.extractLsb' 29 3 == 0b001#3

/-- A rectangle word: `w0[31:29] = 0b011` (R111). -/
def isRectangleWord (w0 : Word) : Bool := w0.extractLsb' 29 3 == 0b011#3

/-- A command word from its top byte and its 24-bit colour (R112, R113). -/
def cmdWord (op : Byte) (c0 : BitVec 24) : Word := op ++ c0

/-- The part of a drawing context that a polygon captures (42_gpu_polygon.md R210). -/
def DrawCtx.toPoly (ctx : DrawCtx) : PolyCtx :=
  { ditherEnable := ctx.ditherEnable, globalBlend := ctx.globalBlend }

/-- A drawing context with a polygon's part and nothing else. -/
def PolyCtx.toDraw (ctx : PolyCtx) : DrawCtx :=
  { ditherEnable := ctx.ditherEnable, globalBlend := ctx.globalBlend, page := 0, depth := 0 }

/-- The words of a stream after the first, at most twelve in all (R134), handed to a constructor that takes so many. -/
def words1 (w0 : Word) (ws : List Word) (f : Word → Instr) : Except DecodeError Instr :=
  match ws with
  | [a] => .ok (f a)
  | _ => .error (.wrongWordCount w0)

/-- As `words1`, for 2 words. -/
def words2 (w0 : Word) (ws : List Word) (f : Word → Word → Instr) : Except DecodeError Instr :=
  match ws with
  | [x1, x2] => .ok (f x1 x2)
  | _ => .error (.wrongWordCount w0)

/-- As `words1`, for 3 words. -/
def words3 (w0 : Word) (ws : List Word) (f : Word → Word → Word → Instr) : Except DecodeError Instr :=
  match ws with
  | [x1, x2, x3] => .ok (f x1 x2 x3)
  | _ => .error (.wrongWordCount w0)

/-- As `words1`, for 4 words. -/
def words4 (w0 : Word) (ws : List Word) (f : Word → Word → Word → Word → Instr) : Except DecodeError Instr :=
  match ws with
  | [x1, x2, x3, x4] => .ok (f x1 x2 x3 x4)
  | _ => .error (.wrongWordCount w0)

/-- As `words1`, for 5 words. -/
def words5 (w0 : Word) (ws : List Word) (f : Word → Word → Word → Word → Word → Instr) : Except DecodeError Instr :=
  match ws with
  | [x1, x2, x3, x4, x5] => .ok (f x1 x2 x3 x4 x5)
  | _ => .error (.wrongWordCount w0)

/-- As `words1`, for 6 words. -/
def words6 (w0 : Word) (ws : List Word) (f : Word → Word → Word → Word → Word → Word → Instr) : Except DecodeError Instr :=
  match ws with
  | [x1, x2, x3, x4, x5, x6] => .ok (f x1 x2 x3 x4 x5 x6)
  | _ => .error (.wrongWordCount w0)

/-- As `words1`, for 7 words. -/
def words7 (w0 : Word) (ws : List Word) (f : Word → Word → Word → Word → Word → Word → Word → Instr) : Except DecodeError Instr :=
  match ws with
  | [x1, x2, x3, x4, x5, x6, x7] => .ok (f x1 x2 x3 x4 x5 x6 x7)
  | _ => .error (.wrongWordCount w0)

/-- As `words1`, for 8 words. -/
def words8 (w0 : Word) (ws : List Word) (f : Word → Word → Word → Word → Word → Word → Word → Word → Instr) : Except DecodeError Instr :=
  match ws with
  | [x1, x2, x3, x4, x5, x6, x7, x8] => .ok (f x1 x2 x3 x4 x5 x6 x7 x8)
  | _ => .error (.wrongWordCount w0)

/-- As `words1`, for 11 words. -/
def words11 (w0 : Word) (ws : List Word) (f : Word → Word → Word → Word → Word → Word → Word → Word → Word → Word → Word → Instr) : Except DecodeError Instr :=
  match ws with
  | [x1, x2, x3, x4, x5, x6, x7, x8, x9, x10, x11] => .ok (f x1 x2 x3 x4 x5 x6 x7 x8 x9 x10 x11)
  | _ => .error (.wrongWordCount w0)

/-- A polygon stream: the flags `gouraud`, `quad`, `textured`, `semi`, `raw` are bits 28 to 24 of the first word (R112), the
word sequence is that of the opcode's rule (R410 to R441). -/
def decodePolygon (ctx : PolyCtx) (w0 : Word) (ws : List Word) : Except DecodeError Instr :=
  let c0 := w0.extractLsb' 0 24
  match w0.getLsbD 28, w0.getLsbD 27, w0.getLsbD 26, w0.getLsbD 25, w0.getLsbD 24 with
  | false, false, false, false, false => words3 w0 ws (.polyF3 ctx c0)
  | false, false, false, false, true => words3 w0 ws (.polyF3R ctx c0)
  | false, false, false, true, false => words3 w0 ws (.polyF3S ctx c0)
  | false, false, false, true, true => words3 w0 ws (.polyF3SR ctx c0)
  | false, false, true, false, false => words6 w0 ws (.polyF3T ctx c0)
  | false, false, true, false, true => words6 w0 ws (.polyF3TR ctx c0)
  | false, false, true, true, false => words6 w0 ws (.polyF3TS ctx c0)
  | false, false, true, true, true => words6 w0 ws (.polyF3TSR ctx c0)
  | false, true, false, false, false => words4 w0 ws (.polyF4 ctx c0)
  | false, true, false, false, true => words4 w0 ws (.polyF4R ctx c0)
  | false, true, false, true, false => words4 w0 ws (.polyF4S ctx c0)
  | false, true, false, true, true => words4 w0 ws (.polyF4SR ctx c0)
  | false, true, true, false, false => words8 w0 ws (.polyF4T ctx c0)
  | false, true, true, false, true => words8 w0 ws (.polyF4TR ctx c0)
  | false, true, true, true, false => words8 w0 ws (.polyF4TS ctx c0)
  | false, true, true, true, true => words8 w0 ws (.polyF4TSR ctx c0)
  | true, false, false, false, false => words5 w0 ws (.polyG3 ctx c0)
  | true, false, false, false, true => words5 w0 ws (.polyG3R ctx c0)
  | true, false, false, true, false => words5 w0 ws (.polyG3S ctx c0)
  | true, false, false, true, true => words5 w0 ws (.polyG3SR ctx c0)
  | true, false, true, false, false => words8 w0 ws (.polyG3T ctx c0)
  | true, false, true, false, true => words8 w0 ws (.polyG3TR ctx c0)
  | true, false, true, true, false => words8 w0 ws (.polyG3TS ctx c0)
  | true, false, true, true, true => words8 w0 ws (.polyG3TSR ctx c0)
  | true, true, false, false, false => words7 w0 ws (.polyG4 ctx c0)
  | true, true, false, false, true => words7 w0 ws (.polyG4R ctx c0)
  | true, true, false, true, false => words7 w0 ws (.polyG4S ctx c0)
  | true, true, false, true, true => words7 w0 ws (.polyG4SR ctx c0)
  | true, true, true, false, false => words11 w0 ws (.polyG4T ctx c0)
  | true, true, true, false, true => words11 w0 ws (.polyG4TR ctx c0)
  | true, true, true, true, false => words11 w0 ws (.polyG4TS ctx c0)
  | true, true, true, true, true => words11 w0 ws (.polyG4TSR ctx c0)

/-- A rectangle stream: the size class is bits 28:27, the flags `textured`, `semi`, `raw` bits 26 to 24 (R113; R442 to R473). -/
def decodeRectangle (ctx : DrawCtx) (w0 : Word) (ws : List Word) : Except DecodeError Instr :=
  let c0 := w0.extractLsb' 0 24
  match w0.getLsbD 28, w0.getLsbD 27, w0.getLsbD 26, w0.getLsbD 25, w0.getLsbD 24 with
  | false, false, false, false, false => words2 w0 ws (.rectV ctx c0)
  | false, false, false, false, true => words2 w0 ws (.rectVR ctx c0)
  | false, false, false, true, false => words2 w0 ws (.rectVS ctx c0)
  | false, false, false, true, true => words2 w0 ws (.rectVSR ctx c0)
  | false, false, true, false, false => words3 w0 ws (.rectVT ctx c0)
  | false, false, true, false, true => words3 w0 ws (.rectVTR ctx c0)
  | false, false, true, true, false => words3 w0 ws (.rectVTS ctx c0)
  | false, false, true, true, true => words3 w0 ws (.rectVTSR ctx c0)
  | false, true, false, false, false => words1 w0 ws (.rect1 ctx c0)
  | false, true, false, false, true => words1 w0 ws (.rect1R ctx c0)
  | false, true, false, true, false => words1 w0 ws (.rect1S ctx c0)
  | false, true, false, true, true => words1 w0 ws (.rect1SR ctx c0)
  | false, true, true, false, false => words2 w0 ws (.rect1T ctx c0)
  | false, true, true, false, true => words2 w0 ws (.rect1TR ctx c0)
  | false, true, true, true, false => words2 w0 ws (.rect1TS ctx c0)
  | false, true, true, true, true => words2 w0 ws (.rect1TSR ctx c0)
  | true, false, false, false, false => words1 w0 ws (.rect8 ctx c0)
  | true, false, false, false, true => words1 w0 ws (.rect8R ctx c0)
  | true, false, false, true, false => words1 w0 ws (.rect8S ctx c0)
  | true, false, false, true, true => words1 w0 ws (.rect8SR ctx c0)
  | true, false, true, false, false => words2 w0 ws (.rect8T ctx c0)
  | true, false, true, false, true => words2 w0 ws (.rect8TR ctx c0)
  | true, false, true, true, false => words2 w0 ws (.rect8TS ctx c0)
  | true, false, true, true, true => words2 w0 ws (.rect8TSR ctx c0)
  | true, true, false, false, false => words1 w0 ws (.rect16 ctx c0)
  | true, true, false, false, true => words1 w0 ws (.rect16R ctx c0)
  | true, true, false, true, false => words1 w0 ws (.rect16S ctx c0)
  | true, true, false, true, true => words1 w0 ws (.rect16SR ctx c0)
  | true, true, true, false, false => words2 w0 ws (.rect16T ctx c0)
  | true, true, true, false, true => words2 w0 ws (.rect16TR ctx c0)
  | true, true, true, true, false => words2 w0 ws (.rect16TS ctx c0)
  | true, true, true, true, true => words2 w0 ws (.rect16TSR ctx c0)

/-- A primitive's word stream (R111; any other first word is outside the contract, R132). -/
def decodePrimitive (ctx : DrawCtx) (words : List Word) : Except DecodeError Instr :=
  match words with
  | [] => .error .emptyStream
  | w0 :: ws =>
    if isPolygonWord w0 then decodePolygon ctx.toPoly w0 ws
    else if isRectangleWord w0 then decodeRectangle ctx w0 ws
    else .error (.notAPrimitive w0)

/-! ## Dialogues (R139) -/

/-- A Normal-mode dialogue: command 0x43 is `PAD.N.CFG`, any other `PAD.N.POLL`. -/
def decodeNormalDialogue (bytes : List Byte) : Except DecodeError Instr :=
  match bytes with
  | [] => .error .notADialogue
  | b0 :: data => if b0 = 0x43#8 then .ok (.padNCfg data) else .ok (.padNPoll b0 data)

/-- A Config-mode dialogue: eight bytes, one of the eight defined command codes (R133). -/
def decodeConfigDialogue (bytes : List Byte) : Except DecodeError Instr :=
  match bytes with
  | [b0, d1, d2, d3, d4, d5, d6, d7] =>
    if b0 = 0x42#8 then .ok (.padC42 d1 d2 d3 d4 d5 d6 d7)
    else if b0 = 0x43#8 then .ok (.padC43 d1 d2 d3 d4 d5 d6 d7)
    else if b0 = 0x44#8 then .ok (.padC44 d1 d2 d3 d4 d5 d6 d7)
    else if b0 = 0x45#8 then .ok (.padC45 d1 d2 d3 d4 d5 d6 d7)
    else if b0 = 0x46#8 then .ok (.padC46 d1 d2 d3 d4 d5 d6 d7)
    else if b0 = 0x47#8 then .ok (.padC47 d1 d2 d3 d4 d5 d6 d7)
    else if b0 = 0x4C#8 then .ok (.padC4C d1 d2 d3 d4 d5 d6 d7)
    else if b0 = 0x4D#8 then .ok (.padC4D d1 d2 d3 d4 d5 d6 d7)
    else .error .notADialogue
  | _ => .error .notADialogue

/-! ## The decoder -/

/-- The operation a request asks for. -/
def decode (r : Request) : Except DecodeError Instr :=
  match r with
  | .busRead8 addr => decodeRead8 addr
  | .busRead16 addr => decodeRead16 addr
  | .busRead32 addr => decodeRead32 addr
  | .busWrite8 addr v => decodeWrite8 addr v
  | .busWrite16 addr v => decodeWrite16 addr v
  | .busWrite32 addr v => decodeWrite32 addr v
  | .callSetIrq n => .ok (.setIrq n)
  | .callHasIrq => .ok .hasIrq
  | .callIsIrqEnabled n => .ok (.irqEn n)
  | .callDone n => .ok (.doneCh n)
  | .traceTrigger n => .ok (.triggerCh n)
  | .gpaBegin w0 ctx => .ok (.beginPrim w0 ctx)
  | .gpaAdd w => .ok (.addWord w)
  | .gpaIsReady => .ok .ready
  | .gpaDraw => .ok .draw
  | .primitive ctx words => decodePrimitive ctx words
  | .exchange d => .ok (.xchg d)
  | .readInput snap => .ok (.poll snap)
  | .setConnected c => .ok (.connect c)
  | .dialogue .normal bytes => decodeNormalDialogue bytes
  | .dialogue .config bytes => decodeConfigDialogue bytes

/-! ## The encoder -/

/-- The address of a register of channel `n`: base, stride 16, offset (R71). -/
def channelAddr (n : Chan) (off : Word) : Word := 0x1F801080#32 + BitVec.ofNat 32 (16 * n.val) + off

/-- The address of byte `k` of a register of channel `n` (R77). -/
def channelByteAddr (n : Chan) (off : Word) (k : BitVec 2) : Word := channelAddr n off + k.setWidth 32

/-- The stream of a polygon. -/
def polygonRequest (op : Byte) (ctx : PolyCtx) (c0 : BitVec 24) (ws : List Word) : Request :=
  .primitive ctx.toDraw (cmdWord op c0 :: ws)

/-- The stream of a rectangle. -/
def rectangleRequest (op : Byte) (ctx : DrawCtx) (c0 : BitVec 24) (ws : List Word) : Request :=
  .primitive ctx (cmdWord op c0 :: ws)

/-- The request of an operation, from the tables of spec/30_encoding.md. -/
def encode (i : Instr) : Request :=
  match i with
  | .rd32Base n => .busRead32 (channelAddr n 0x0#32)
  | .wr32Base n v => .busWrite32 (channelAddr n 0x0#32) v
  | .rd16Base n => .busRead16 (channelAddr n 0x0#32)
  | .wr16Base n h => .busWrite16 (channelAddr n 0x0#32) h
  | .wr32Block n v => .busWrite32 (channelAddr n 0x4#32) v
  | .rd32Block n => .busRead32 (channelAddr n 0x4#32)
  | .rd16Block n => .busRead16 (channelAddr n 0x4#32)
  | .wr16Block n h => .busWrite16 (channelAddr n 0x4#32) h
  | .rd32Ctrl n => .busRead32 (channelAddr n 0x8#32)
  | .wr32Ctrl n v => .busWrite32 (channelAddr n 0x8#32) v
  | .rd16Ctrl n => .busRead16 (channelAddr n 0x8#32)
  | .wr16Ctrl n h => .busWrite16 (channelAddr n 0x8#32) h
  | .rd8Base n k => .busRead8 (channelByteAddr n 0x0#32 k)
  | .wr8Base n k b => .busWrite8 (channelByteAddr n 0x0#32 k) b
  | .rd8Block n k => .busRead8 (channelByteAddr n 0x4#32 k)
  | .wr8Block n k b => .busWrite8 (channelByteAddr n 0x4#32 k) b
  | .rd8Ctrl n k => .busRead8 (channelByteAddr n 0x8#32 k)
  | .wr8Ctrl n k b => .busWrite8 (channelByteAddr n 0x8#32 k) b
  | .rd32Dpcr => .busRead32 0x1F8010F0#32
  | .wr32Dpcr v => .busWrite32 0x1F8010F0#32 v
  | .rd16Dpcr => .busRead16 0x1F8010F0#32
  | .wr16Dpcr h => .busWrite16 0x1F8010F0#32 h
  | .rd32Dicr => .busRead32 0x1F8010F4#32
  | .wr32Dicr v => .busWrite32 0x1F8010F4#32 v
  | .rd16DicrL => .busRead16 0x1F8010F4#32
  | .rd16DicrH => .busRead16 0x1F8010F6#32
  | .wr16DicrL h => .busWrite16 0x1F8010F4#32 h
  | .wr16DicrH h => .busWrite16 0x1F8010F6#32 h
  | .rd8Dicr0 => .busRead8 0x1F8010F4#32
  | .rd8Dicr1 => .busRead8 0x1F8010F5#32
  | .rd8Dicr2 => .busRead8 0x1F8010F6#32
  | .rd8Dicr3 => .busRead8 0x1F8010F7#32
  | .wr8Dicr0 b => .busWrite8 0x1F8010F4#32 b
  | .wr8Dicr1 b => .busWrite8 0x1F8010F5#32 b
  | .wr8Dicr2 b => .busWrite8 0x1F8010F6#32 b
  | .wr8Dicr3 b => .busWrite8 0x1F8010F7#32 b
  | .setIrq n => .callSetIrq n
  | .hasIrq => .callHasIrq
  | .irqEn n => .callIsIrqEnabled n
  | .doneCh n => .callDone n
  | .triggerCh n => .traceTrigger n
  | .beginPrim w0 ctx => .gpaBegin w0 ctx
  | .addWord w => .gpaAdd w
  | .ready => .gpaIsReady
  | .draw => .gpaDraw
  | .polyF3 ctx c0 p0 p1 p2 => polygonRequest 0x20#8 ctx c0 [p0, p1, p2]
  | .polyF3R ctx c0 p0 p1 p2 => polygonRequest 0x21#8 ctx c0 [p0, p1, p2]
  | .polyF3S ctx c0 p0 p1 p2 => polygonRequest 0x22#8 ctx c0 [p0, p1, p2]
  | .polyF3SR ctx c0 p0 p1 p2 => polygonRequest 0x23#8 ctx c0 [p0, p1, p2]
  | .polyF3T ctx c0 p0 t0 p1 t1 p2 t2 => polygonRequest 0x24#8 ctx c0 [p0, t0, p1, t1, p2, t2]
  | .polyF3TR ctx c0 p0 t0 p1 t1 p2 t2 => polygonRequest 0x25#8 ctx c0 [p0, t0, p1, t1, p2, t2]
  | .polyF3TS ctx c0 p0 t0 p1 t1 p2 t2 => polygonRequest 0x26#8 ctx c0 [p0, t0, p1, t1, p2, t2]
  | .polyF3TSR ctx c0 p0 t0 p1 t1 p2 t2 => polygonRequest 0x27#8 ctx c0 [p0, t0, p1, t1, p2, t2]
  | .polyF4 ctx c0 p0 p1 p2 p3 => polygonRequest 0x28#8 ctx c0 [p0, p1, p2, p3]
  | .polyF4R ctx c0 p0 p1 p2 p3 => polygonRequest 0x29#8 ctx c0 [p0, p1, p2, p3]
  | .polyF4S ctx c0 p0 p1 p2 p3 => polygonRequest 0x2A#8 ctx c0 [p0, p1, p2, p3]
  | .polyF4SR ctx c0 p0 p1 p2 p3 => polygonRequest 0x2B#8 ctx c0 [p0, p1, p2, p3]
  | .polyF4T ctx c0 p0 t0 p1 t1 p2 t2 p3 t3 => polygonRequest 0x2C#8 ctx c0 [p0, t0, p1, t1, p2, t2, p3, t3]
  | .polyF4TR ctx c0 p0 t0 p1 t1 p2 t2 p3 t3 => polygonRequest 0x2D#8 ctx c0 [p0, t0, p1, t1, p2, t2, p3, t3]
  | .polyF4TS ctx c0 p0 t0 p1 t1 p2 t2 p3 t3 => polygonRequest 0x2E#8 ctx c0 [p0, t0, p1, t1, p2, t2, p3, t3]
  | .polyF4TSR ctx c0 p0 t0 p1 t1 p2 t2 p3 t3 => polygonRequest 0x2F#8 ctx c0 [p0, t0, p1, t1, p2, t2, p3, t3]
  | .polyG3 ctx c0 p0 c1 p1 c2 p2 => polygonRequest 0x30#8 ctx c0 [p0, c1, p1, c2, p2]
  | .polyG3R ctx c0 p0 c1 p1 c2 p2 => polygonRequest 0x31#8 ctx c0 [p0, c1, p1, c2, p2]
  | .polyG3S ctx c0 p0 c1 p1 c2 p2 => polygonRequest 0x32#8 ctx c0 [p0, c1, p1, c2, p2]
  | .polyG3SR ctx c0 p0 c1 p1 c2 p2 => polygonRequest 0x33#8 ctx c0 [p0, c1, p1, c2, p2]
  | .polyG3T ctx c0 p0 t0 c1 p1 t1 c2 p2 t2 => polygonRequest 0x34#8 ctx c0 [p0, t0, c1, p1, t1, c2, p2, t2]
  | .polyG3TR ctx c0 p0 t0 c1 p1 t1 c2 p2 t2 => polygonRequest 0x35#8 ctx c0 [p0, t0, c1, p1, t1, c2, p2, t2]
  | .polyG3TS ctx c0 p0 t0 c1 p1 t1 c2 p2 t2 => polygonRequest 0x36#8 ctx c0 [p0, t0, c1, p1, t1, c2, p2, t2]
  | .polyG3TSR ctx c0 p0 t0 c1 p1 t1 c2 p2 t2 => polygonRequest 0x37#8 ctx c0 [p0, t0, c1, p1, t1, c2, p2, t2]
  | .polyG4 ctx c0 p0 c1 p1 c2 p2 c3 p3 => polygonRequest 0x38#8 ctx c0 [p0, c1, p1, c2, p2, c3, p3]
  | .polyG4R ctx c0 p0 c1 p1 c2 p2 c3 p3 => polygonRequest 0x39#8 ctx c0 [p0, c1, p1, c2, p2, c3, p3]
  | .polyG4S ctx c0 p0 c1 p1 c2 p2 c3 p3 => polygonRequest 0x3A#8 ctx c0 [p0, c1, p1, c2, p2, c3, p3]
  | .polyG4SR ctx c0 p0 c1 p1 c2 p2 c3 p3 => polygonRequest 0x3B#8 ctx c0 [p0, c1, p1, c2, p2, c3, p3]
  | .polyG4T ctx c0 p0 t0 c1 p1 t1 c2 p2 t2 c3 p3 t3 => polygonRequest 0x3C#8 ctx c0 [p0, t0, c1, p1, t1, c2, p2, t2, c3, p3, t3]
  | .polyG4TR ctx c0 p0 t0 c1 p1 t1 c2 p2 t2 c3 p3 t3 => polygonRequest 0x3D#8 ctx c0 [p0, t0, c1, p1, t1, c2, p2, t2, c3, p3, t3]
  | .polyG4TS ctx c0 p0 t0 c1 p1 t1 c2 p2 t2 c3 p3 t3 => polygonRequest 0x3E#8 ctx c0 [p0, t0, c1, p1, t1, c2, p2, t2, c3, p3, t3]
  | .polyG4TSR ctx c0 p0 t0 c1 p1 t1 c2 p2 t2 c3 p3 t3 => polygonRequest 0x3F#8 ctx c0 [p0, t0, c1, p1, t1, c2, p2, t2, c3, p3, t3]
  | .rectV ctx c0 p0 dim => rectangleRequest 0x60#8 ctx c0 [p0, dim]
  | .rectVR ctx c0 p0 dim => rectangleRequest 0x61#8 ctx c0 [p0, dim]
  | .rectVS ctx c0 p0 dim => rectangleRequest 0x62#8 ctx c0 [p0, dim]
  | .rectVSR ctx c0 p0 dim => rectangleRequest 0x63#8 ctx c0 [p0, dim]
  | .rectVT ctx c0 p0 t0 dim => rectangleRequest 0x64#8 ctx c0 [p0, t0, dim]
  | .rectVTR ctx c0 p0 t0 dim => rectangleRequest 0x65#8 ctx c0 [p0, t0, dim]
  | .rectVTS ctx c0 p0 t0 dim => rectangleRequest 0x66#8 ctx c0 [p0, t0, dim]
  | .rectVTSR ctx c0 p0 t0 dim => rectangleRequest 0x67#8 ctx c0 [p0, t0, dim]
  | .rect1 ctx c0 p0 => rectangleRequest 0x68#8 ctx c0 [p0]
  | .rect1R ctx c0 p0 => rectangleRequest 0x69#8 ctx c0 [p0]
  | .rect1S ctx c0 p0 => rectangleRequest 0x6A#8 ctx c0 [p0]
  | .rect1SR ctx c0 p0 => rectangleRequest 0x6B#8 ctx c0 [p0]
  | .rect1T ctx c0 p0 t0 => rectangleRequest 0x6C#8 ctx c0 [p0, t0]
  | .rect1TR ctx c0 p0 t0 => rectangleRequest 0x6D#8 ctx c0 [p0, t0]
  | .rect1TS ctx c0 p0 t0 => rectangleRequest 0x6E#8 ctx c0 [p0, t0]
  | .rect1TSR ctx c0 p0 t0 => rectangleRequest 0x6F#8 ctx c0 [p0, t0]
  | .rect8 ctx c0 p0 => rectangleRequest 0x70#8 ctx c0 [p0]
  | .rect8R ctx c0 p0 => rectangleRequest 0x71#8 ctx c0 [p0]
  | .rect8S ctx c0 p0 => rectangleRequest 0x72#8 ctx c0 [p0]
  | .rect8SR ctx c0 p0 => rectangleRequest 0x73#8 ctx c0 [p0]
  | .rect8T ctx c0 p0 t0 => rectangleRequest 0x74#8 ctx c0 [p0, t0]
  | .rect8TR ctx c0 p0 t0 => rectangleRequest 0x75#8 ctx c0 [p0, t0]
  | .rect8TS ctx c0 p0 t0 => rectangleRequest 0x76#8 ctx c0 [p0, t0]
  | .rect8TSR ctx c0 p0 t0 => rectangleRequest 0x77#8 ctx c0 [p0, t0]
  | .rect16 ctx c0 p0 => rectangleRequest 0x78#8 ctx c0 [p0]
  | .rect16R ctx c0 p0 => rectangleRequest 0x79#8 ctx c0 [p0]
  | .rect16S ctx c0 p0 => rectangleRequest 0x7A#8 ctx c0 [p0]
  | .rect16SR ctx c0 p0 => rectangleRequest 0x7B#8 ctx c0 [p0]
  | .rect16T ctx c0 p0 t0 => rectangleRequest 0x7C#8 ctx c0 [p0, t0]
  | .rect16TR ctx c0 p0 t0 => rectangleRequest 0x7D#8 ctx c0 [p0, t0]
  | .rect16TS ctx c0 p0 t0 => rectangleRequest 0x7E#8 ctx c0 [p0, t0]
  | .rect16TSR ctx c0 p0 t0 => rectangleRequest 0x7F#8 ctx c0 [p0, t0]
  | .xchg d => .exchange d
  | .poll snap => .readInput snap
  | .connect c => .setConnected c
  | .padNPoll b0 data => .dialogue .normal (b0 :: data)
  | .padNCfg data => .dialogue .normal (0x43#8 :: data)
  | .padC42 d1 d2 d3 d4 d5 d6 d7 => .dialogue .config [0x42#8, d1, d2, d3, d4, d5, d6, d7]
  | .padC43 d1 d2 d3 d4 d5 d6 d7 => .dialogue .config [0x43#8, d1, d2, d3, d4, d5, d6, d7]
  | .padC44 d1 d2 d3 d4 d5 d6 d7 => .dialogue .config [0x44#8, d1, d2, d3, d4, d5, d6, d7]
  | .padC45 d1 d2 d3 d4 d5 d6 d7 => .dialogue .config [0x45#8, d1, d2, d3, d4, d5, d6, d7]
  | .padC46 d1 d2 d3 d4 d5 d6 d7 => .dialogue .config [0x46#8, d1, d2, d3, d4, d5, d6, d7]
  | .padC47 d1 d2 d3 d4 d5 d6 d7 => .dialogue .config [0x47#8, d1, d2, d3, d4, d5, d6, d7]
  | .padC4C d1 d2 d3 d4 d5 d6 d7 => .dialogue .config [0x4C#8, d1, d2, d3, d4, d5, d6, d7]
  | .padC4D d1 d2 d3 d4 d5 d6 d7 => .dialogue .config [0x4D#8, d1, d2, d3, d4, d5, d6, d7]

/-! ## Bare words of the opcode table (Log 17) -/

/-- The number of words a first command word fixes (R134; 42_gpu_polygon.md R212, 43_gpu_rectangle.md R240). -/
def wordCount (w0 : Word) : Nat :=
  if isPolygonWord w0 then
    let vc := if w0.getLsbD 27 then 4 else 3
    vc + (if w0.getLsbD 26 then vc else 0) + (if w0.getLsbD 28 then vc else 1)
  else
    2 + (if w0.getLsbD 26 then 1 else 0) + (if w0.extractLsb' 27 2 = 0#2 then 1 else 0)

/-- The drawing context a bare word comes with: all zero. -/
def zeroCtx : DrawCtx := { ditherEnable := false, globalBlend := 0, page := 0, depth := 0 }

/-- Whether a request decodes. -/
def decodes (r : Request) : Bool :=
  match decode r with
  | .ok _ => true
  | .error _ => false

/-- A bare 32-bit word: a first command word with its operand words zero, else the address of a read of the widest width that
selects a register there. The table gives reads and writes of every width at one address the same word. -/
def wordRequest (w : Word) : Request :=
  if isPolygonWord w || isRectangleWord w then .primitive zeroCtx (w :: List.replicate (wordCount w - 1) 0#32)
  else if decodes (.busRead32 w) then .busRead32 w
  else if decodes (.busRead16 w) then .busRead16 w
  else .busRead8 w

/-- Byte `k` of a number whose byte 0 is its least significant. -/
def byteOf (w k : Nat) : Byte := BitVec.ofNat 8 (w >>> (8 * k))

/-- The eight bytes of a dialogue: a defined Config-mode command is read as its Config-mode dialogue, any other as Normal mode. -/
def dialogueRequest (w : Nat) : Request :=
  let bytes := [byteOf w 0, byteOf w 1, byteOf w 2, byteOf w 3, byteOf w 4, byteOf w 5, byteOf w 6, byteOf w 7]
  if decodes (.dialogue .config bytes) then .dialogue .config bytes else .dialogue .normal bytes

/-- The request a table word stands for: no bits, nothing; one byte, an exchange; up to four, a word; more, a dialogue. -/
def tableRequest (nbits w : Nat) : Request :=
  if nbits = 0 then .primitive zeroCtx []
  else if nbits ≤ 8 then .exchange (byteOf w 0)
  else if nbits ≤ 32 then wordRequest (BitVec.ofNat 32 w)
  else dialogueRequest w

/-- The operation the decoder reads from a table word, none where it refuses. -/
def decodeTableWord (nbits w : Nat) : Option Instr :=
  match decode (tableRequest nbits w) with
  | .ok i => some i
  | .error _ => none

end Sys2Proof
end

