-- ==== Sys2Proof/WellFormed.lean ====
section
/-! DEFINITION. Which operations lie inside the contract of their interface by their operands alone. -/

namespace Sys2Proof

/-- A deflection in [-1, 1] (spec/45_pad_input.md R310, R318): a number, between `-den` and `den`. -/
def AxisValue.inRange (a : AxisValue) : Bool :=
  decide (0 < a.den ∧ -(a.den : Int) ≤ a.num ∧ a.num ≤ (a.den : Int))

/-- A snapshot whose axes are a map (no index twice) into [-1, 1] (R310, R311). -/
def Snapshot.wellFormed (snap : Snapshot) : Bool :=
  snap.axes.all (fun p => p.2.inRange) && decide (snap.axes.map Prod.fst).Nodup && snap.restAxes.all AxisValue.inRange

/-- The checks: a side-band channel is 0 to 6 (41 R194); a first command word is a polygon or rectangle word (30 R132); a snapshot
is as the poller's interface says; `PAD.N.POLL` has another command than 0x43 and 4 or 8 bytes, `PAD.N.CFG` 3 or 8 (30 R135). -/
def Instr.wellFormed (i : Instr) : Bool :=
  match i with
  | .rd32Base _ => true
  | .wr32Base _ _ => true
  | .rd16Base _ => true
  | .wr16Base _ _ => true
  | .wr32Block _ _ => true
  | .rd32Block _ => true
  | .rd16Block _ => true
  | .wr16Block _ _ => true
  | .rd32Ctrl _ => true
  | .wr32Ctrl _ _ => true
  | .rd16Ctrl _ => true
  | .wr16Ctrl _ _ => true
  | .rd8Base _ _ => true
  | .wr8Base _ _ _ => true
  | .rd8Block _ _ => true
  | .wr8Block _ _ _ => true
  | .rd8Ctrl _ _ => true
  | .wr8Ctrl _ _ _ => true
  | .rd32Dpcr => true
  | .wr32Dpcr _ => true
  | .rd16Dpcr => true
  | .wr16Dpcr _ => true
  | .rd32Dicr => true
  | .wr32Dicr _ => true
  | .rd16DicrL => true
  | .rd16DicrH => true
  | .wr16DicrL _ => true
  | .wr16DicrH _ => true
  | .rd8Dicr0 => true
  | .rd8Dicr1 => true
  | .rd8Dicr2 => true
  | .rd8Dicr3 => true
  | .wr8Dicr0 _ => true
  | .wr8Dicr1 _ => true
  | .wr8Dicr2 _ => true
  | .wr8Dicr3 _ => true
  | .setIrq n => decide (n < 7)
  | .hasIrq => true
  | .irqEn n => decide (n < 7)
  | .doneCh n => decide (n < 7)
  | .triggerCh n => decide (n < 7)
  | .beginPrim w0 _ => isPolygonWord w0 || isRectangleWord w0
  | .addWord _ => true
  | .ready => true
  | .draw => true
  | .polyF3 _ _ _ _ _ => true
  | .polyF3R _ _ _ _ _ => true
  | .polyF3S _ _ _ _ _ => true
  | .polyF3SR _ _ _ _ _ => true
  | .polyF3T _ _ _ _ _ _ _ _ => true
  | .polyF3TR _ _ _ _ _ _ _ _ => true
  | .polyF3TS _ _ _ _ _ _ _ _ => true
  | .polyF3TSR _ _ _ _ _ _ _ _ => true
  | .polyF4 _ _ _ _ _ _ => true
  | .polyF4R _ _ _ _ _ _ => true
  | .polyF4S _ _ _ _ _ _ => true
  | .polyF4SR _ _ _ _ _ _ => true
  | .polyF4T _ _ _ _ _ _ _ _ _ _ => true
  | .polyF4TR _ _ _ _ _ _ _ _ _ _ => true
  | .polyF4TS _ _ _ _ _ _ _ _ _ _ => true
  | .polyF4TSR _ _ _ _ _ _ _ _ _ _ => true
  | .polyG3 _ _ _ _ _ _ _ => true
  | .polyG3R _ _ _ _ _ _ _ => true
  | .polyG3S _ _ _ _ _ _ _ => true
  | .polyG3SR _ _ _ _ _ _ _ => true
  | .polyG3T _ _ _ _ _ _ _ _ _ _ => true
  | .polyG3TR _ _ _ _ _ _ _ _ _ _ => true
  | .polyG3TS _ _ _ _ _ _ _ _ _ _ => true
  | .polyG3TSR _ _ _ _ _ _ _ _ _ _ => true
  | .polyG4 _ _ _ _ _ _ _ _ _ => true
  | .polyG4R _ _ _ _ _ _ _ _ _ => true
  | .polyG4S _ _ _ _ _ _ _ _ _ => true
  | .polyG4SR _ _ _ _ _ _ _ _ _ => true
  | .polyG4T _ _ _ _ _ _ _ _ _ _ _ _ _ => true
  | .polyG4TR _ _ _ _ _ _ _ _ _ _ _ _ _ => true
  | .polyG4TS _ _ _ _ _ _ _ _ _ _ _ _ _ => true
  | .polyG4TSR _ _ _ _ _ _ _ _ _ _ _ _ _ => true
  | .rectV _ _ _ _ => true
  | .rectVR _ _ _ _ => true
  | .rectVS _ _ _ _ => true
  | .rectVSR _ _ _ _ => true
  | .rectVT _ _ _ _ _ => true
  | .rectVTR _ _ _ _ _ => true
  | .rectVTS _ _ _ _ _ => true
  | .rectVTSR _ _ _ _ _ => true
  | .rect1 _ _ _ => true
  | .rect1R _ _ _ => true
  | .rect1S _ _ _ => true
  | .rect1SR _ _ _ => true
  | .rect1T _ _ _ _ => true
  | .rect1TR _ _ _ _ => true
  | .rect1TS _ _ _ _ => true
  | .rect1TSR _ _ _ _ => true
  | .rect8 _ _ _ => true
  | .rect8R _ _ _ => true
  | .rect8S _ _ _ => true
  | .rect8SR _ _ _ => true
  | .rect8T _ _ _ _ => true
  | .rect8TR _ _ _ _ => true
  | .rect8TS _ _ _ _ => true
  | .rect8TSR _ _ _ _ => true
  | .rect16 _ _ _ => true
  | .rect16R _ _ _ => true
  | .rect16S _ _ _ => true
  | .rect16SR _ _ _ => true
  | .rect16T _ _ _ _ => true
  | .rect16TR _ _ _ _ => true
  | .rect16TS _ _ _ _ => true
  | .rect16TSR _ _ _ _ => true
  | .xchg _ => true
  | .poll snap => snap.wellFormed
  | .connect _ => true
  | .padNPoll b0 data => b0 != 0x43#8 && (data.length == 3 || data.length == 7)
  | .padNCfg data => data.length == 2 || data.length == 7
  | .padC42 _ _ _ _ _ _ _ => true
  | .padC43 _ _ _ _ _ _ _ => true
  | .padC44 _ _ _ _ _ _ _ => true
  | .padC45 _ _ _ _ _ _ _ => true
  | .padC46 _ _ _ _ _ _ _ => true
  | .padC47 _ _ _ _ _ _ _ => true
  | .padC4C _ _ _ _ _ _ _ => true
  | .padC4D _ _ _ _ _ _ _ => true

end Sys2Proof
end

