-- ==== Sys2Proof/Machine/Operands.lean ====
section
/-! DEFINITION. Operand forms: how register images, command words and pad bytes are taken apart and put together
(spec/30_encoding.md sections 2 to 5). -/

namespace Sys2Proof.Machine

/-! ## Widths -/

/-- One bit as a word, in bit 0. -/
def bitWord (b : Bool) : Word := (BitVec.ofBool b).setWidth 32

/-- A half write of a channel register or DPCR is widened with zeros (R125). -/
def widen (h : Half) : Word := h.setWidth 32

/-- A half read of a channel register or DPCR is the low half of the word read (R125). -/
def lowHalf (v : Word) : Half := v.extractLsb' 0 16

/-- Bits 31:16 of a word. -/
def highHalf (v : Word) : Half := v.extractLsb' 16 16

/-! ## Channel registers (R102 to R106, R123, R124, R128) -/

/-- The value of a sync mode (R106). -/
def SyncMode.bits (m : SyncMode) : BitVec 2 :=
  match m with
  | .manual => 0
  | .request => 1
  | .linkedList => 2

/-- The sync mode of a written field; value 3 is illegal (R129). -/
def SyncMode.ofBits (b : BitVec 2) : Option SyncMode :=
  if b = 0#2 then some .manual
  else if b = 1#2 then some .request
  else if b = 2#2 then some .linkedList
  else none

/-- The read value of a base address register (R123). -/
def packBase (c : Channel) : Word := c.base.setWidth 32

/-- A base address write keeps the low 24 bits (R123). -/
def loadBase (v : Word) (c : Channel) : Channel := { c with base := v.extractLsb' 0 24 }

/-- A block control half: a written 0 stands for 0x10000 (R124). -/
def blockField (h : Half) : Nat := if h = 0#16 then 0x10000 else h.toNat

/-- The read value of a block control register: each half modulo 0x10000 (40 R147). -/
def packBlock (c : Channel) : Word := BitVec.ofNat 16 c.blockCount ++ BitVec.ofNat 16 c.blockSize

/-- A block control write splits the word into its halves (40 R146). -/
def loadBlock (v : Word) (c : Channel) : Channel :=
  { c with blockSize := blockField (lowHalf v), blockCount := blockField (highHalf v) }

/-- The read value of a channel control register (40 R151). -/
def packCtrl (c : Channel) : Word :=
  c.readWrite.setWidth 32 <<< 29 ||| bitWord c.trigger <<< 28 ||| bitWord c.enabled <<< 24 ||| c.chopCpuWin.setWidth 32 <<< 20
    ||| c.chopDmaWin.setWidth 32 <<< 16 ||| c.sync.bits.setWidth 32 <<< 9 ||| bitWord c.chop <<< 8 ||| bitWord c.step <<< 1
    ||| bitWord c.direction

/-- A channel control write with a legal sync mode: the nine fields change together (40 R152 step 2). -/
def loadCtrl (v : Word) (m : SyncMode) (c : Channel) : Channel :=
  { c with
    direction := v.getLsbD 0, step := v.getLsbD 1, chop := v.getLsbD 8, sync := m, chopDmaWin := v.extractLsb' 16 3,
    chopCpuWin := v.extractLsb' 20 3, enabled := v.getLsbD 24, trigger := v.getLsbD 28, readWrite := v.extractLsb' 29 2 }

/-! ## Command words of the assembler (R112 to R119) -/

/-- The low 24 bits of a colour word; the rest is dropped (R114). -/
def colorOf (w : Word) : BitVec 24 := w.extractLsb' 0 24

/-- The attachment of a UV word, bits 31:16 (R117). -/
def attachment (w : Word) : Half := highHalf w

/-- `u` of a UV word, widened (R117). -/
def uvU (w : Word) : Half := (w.extractLsb' 0 8).setWidth 16

/-- `v` of a UV word, widened (R117). -/
def uvV (w : Word) : Half := (w.extractLsb' 8 8).setWidth 16

/-- The texture mode of a page word, `page[8:7]` (R118). -/
def pageTexMode (page : Half) : BitVec 2 := page.extractLsb' 7 2

/-- The blend mode of a page word, `page[6:5]` (R118). -/
def pageBlend (page : Half) : BitVec 2 := page.extractLsb' 5 2

/-- `x` of a rectangle's position word: eleven bits, signed (R116, R126). -/
def rectX (w : Word) : Half := (w.extractLsb' 0 11).signExtend 16

/-- `y` of a rectangle's position word: eleven bits, signed (R116, R126). -/
def rectY (w : Word) : Half := (w.extractLsb' 16 11).signExtend 16

/-- The size class of a rectangle's command word, bits 28:27 (R113). -/
def sizeClassOf (w0 : Word) : SizeClass :=
  if w0.extractLsb' 27 2 = 0#2 then .variable
  else if w0.extractLsb' 27 2 = 1#2 then .one
  else if w0.extractLsb' 27 2 = 2#2 then .eight
  else .sixteen

/-- The expected word count of a polygon (42 R212). -/
def polygonExpected (vc : Nat) (textured gouraud : Bool) : Nat :=
  vc + (if textured then vc else 0) + (if gouraud then vc else 1)

/-- The expected word count of a rectangle (43 R240). -/
def rectangleExpected (size : SizeClass) (textured : Bool) : Nat :=
  2 + (if textured then 1 else 0) + (if size = .variable then 1 else 0)

/-! ## Pad registers and the axis map -/

/-- `buttons[7:0]`, the first byte on the wire (10 R58). -/
def buttonsLow (b : Half) : Byte := b.extractLsb' 0 8

/-- `buttons[15:8]`. -/
def buttonsHigh (b : Half) : Byte := b.extractLsb' 8 8

/-- One bit of the buttons register: cleared while the button is held, set otherwise (45 R314). -/
def setButton (b : Half) (k : Fin 16) (held : Bool) : Half :=
  if held then b &&& ~~~(1#16 <<< k.val) else b ||| 1#16 <<< k.val

/-- `AxisByte`: the floor of `(v + 1) * 0.5 * 255` for `v = num / den` in [-1, 1] (45 R318). -/
def axisByte (a : AxisValue) : Byte :=
  BitVec.ofNat 8 (255 * (a.num + (a.den : Int)).toNat / (2 * a.den))

/-- The byte of axis `i` of a snapshot; none if the snapshot lacks the axis or its value is outside the contract (45 R318, R323). -/
def axisOf (snap : Snapshot) (i : Nat) : Option Byte :=
  match (snap.axes.lookup i).or snap.restAxes with
  | none => none
  | some a => if a.inRange then some (axisByte a) else none

/-- Whether button `i` of a snapshot is held (45 R310). -/
def heldIn (snap : Snapshot) (i : Nat) : Bool := decide (i ∈ snap.down)

end Sys2Proof.Machine
end

