-- ==== Sys2Proof/Machine/Flags.lean ====
section
/-! DEFINITION. The derived signals (spec/10_state.md R33, R42, R48), the interrupt flags, and the DICR images they enter
(spec/30_encoding.md R108, R109, R127). -/

namespace Sys2Proof.Machine

/-- `IsActive` of a channel (R33): in manual sync the trigger too must be set. -/
def isActive (c : Channel) : Bool :=
  if c.sync = .manual then c.trigger && c.enabled else c.enabled

/-- The derived master flag (R42): never stored. -/
def masterFlag (d : Dma) : Bool := d.busError || (d.masterEnable && (d.mask &&& d.flags) != 0#7)

/-- `IsIRQEnabled(n)` reads the mask bit (41 R192). -/
def irqEnabled (d : Dma) (n : Chan) : Bool := d.mask.getLsbD n.val

/-- `SetIRQ(n)` on the flags (41 R190). -/
def setFlag (flags : BitVec 7) (n : Chan) : BitVec 7 := flags ||| 1#7 <<< n.val

/-- Write-one-to-clear (30 R127). -/
def clearFlags (flags c : BitVec 7) : BitVec 7 := flags &&& ~~~c

/-- The expected word count of the primitive under assembly. -/
def expectedOf (p : Prim) : Option Nat :=
  match p with
  | .none => none
  | .polygon q => some q.expected
  | .rectangle r => some r.expected

/-! ## DICR images -/

/-- The word read (41 R174). -/
def packDicr (d : Dma) : Word :=
  bitWord (masterFlag d) <<< 31 ||| d.flags.setWidth 32 <<< 24 ||| bitWord d.masterEnable <<< 23 ||| d.mask.setWidth 32 <<< 16
    ||| bitWord d.busError <<< 15 ||| d.cic.setWidth 32

/-- The low half read (41 R178). -/
def packDicrL (d : Dma) : Half := (BitVec.ofBool d.busError).setWidth 16 <<< 15 ||| d.cic.setWidth 16

/-- The high half read (41 R179). -/
def packDicrH (d : Dma) : Half :=
  (BitVec.ofBool (masterFlag d)).setWidth 16 <<< 15 ||| d.flags.setWidth 16 <<< 8 ||| (BitVec.ofBool d.masterEnable).setWidth 16 <<< 7
    ||| d.mask.setWidth 16

/-- Byte 0 read (41 R182). -/
def packDicr0 (d : Dma) : Byte := d.cic.setWidth 8

/-- Byte 1 read (41 R183). -/
def packDicr1 (d : Dma) : Byte := (BitVec.ofBool d.busError).setWidth 8 <<< 7

/-- Byte 2 read (41 R184). -/
def packDicr2 (d : Dma) : Byte := (BitVec.ofBool d.masterEnable).setWidth 8 <<< 7 ||| d.mask.setWidth 8

/-- Byte 3 read (41 R185). -/
def packDicr3 (d : Dma) : Byte := (BitVec.ofBool (masterFlag d)).setWidth 8 <<< 7 ||| d.flags.setWidth 8

/-- The word write (41 R175): bits 31 and 14:7 are ignored, bits 30:24 clear flags. -/
def loadDicr (v : Word) (d : Dma) : Dma :=
  { d with
    cic := v.extractLsb' 0 7, busError := v.getLsbD 15, mask := v.extractLsb' 16 7, masterEnable := v.getLsbD 23,
    flags := clearFlags d.flags (v.extractLsb' 24 7) }

/-- The low half write (41 R180). -/
def loadDicrL (h : Half) (d : Dma) : Dma := { d with cic := h.extractLsb' 0 7, busError := h.getLsbD 15 }

/-- The high half write (41 R181). -/
def loadDicrH (h : Half) (d : Dma) : Dma :=
  { d with mask := h.extractLsb' 0 7, masterEnable := h.getLsbD 7, flags := clearFlags d.flags (h.extractLsb' 8 7) }

/-- Byte 0 write (41 R186). -/
def loadDicr0 (b : Byte) (d : Dma) : Dma := { d with cic := b.extractLsb' 0 7 }

/-- Byte 1 write (41 R187). -/
def loadDicr1 (b : Byte) (d : Dma) : Dma := { d with busError := b.getLsbD 7 }

/-- Byte 2 write (41 R188). -/
def loadDicr2 (b : Byte) (d : Dma) : Dma := { d with mask := b.extractLsb' 0 7, masterEnable := b.getLsbD 7 }

/-- Byte 3 write (41 R189). -/
def loadDicr3 (b : Byte) (d : Dma) : Dma := { d with flags := clearFlags d.flags (b.extractLsb' 0 7) }

end Sys2Proof.Machine
end

