-- ==== Sys2Proof/Machine/Ops.lean ====
section
/-! DEFINITION. The named operations every meaning is made of: delivering a result or an error, register writes, the transfer
dispatch, assembling and drawing primitives, pad exchanges, input polling. -/

namespace Sys2Proof.Machine

/-! ## Results and errors -/

/-- The operation completes with a result and changes nothing of the block. -/
def State.reply (r : Result) (s : State) : State := { s with result := r }

/-- Taking an error (spec/60_exceptions.md R337, R348): the error is the operation's result and the block is exactly as before. No
state is saved, no mode changes, and there is no return operation (R352). Log 3. -/
def State.raise (e : ErrorKind) (s : State) : State := s.reply (.error e)

/-- The numeric code of an error kind (60_exceptions.md R330). -/
def errorCode (e : ErrorKind) : Nat :=
  match e with
  | .unhandledAddress _ => 1
  | .invalidConfiguration _ _ => 2
  | .unrecognizedConfigCommand _ => 3
  | .unknownSequenceStep _ => 4

/-- The operation completes with no value and leaves DMA as given. -/
def State.setDma (d : Dma) (s : State) : State := { s with dma := d, result := .completed }

/-- The operation completes with no value and leaves the assembler as given. -/
def State.setGpa (g : Gpa) (s : State) : State := { s with gpa := g, result := .completed }

/-- The operation leaves the pad as given and completes with a result. -/
def State.setPad (p : Pad) (r : Result) (s : State) : State := { s with pad := p, result := r }

/-- One operation after another, stopping where the first stops. -/
def andThen (o : Out) (f : State → Out) : Out :=
  match o with
  | .next s => f s
  | .fault e => .fault e
  | .refused r => .refused r

/-! ## DMA -/

/-- Channel `n`. -/
def Dma.chan (d : Dma) (n : Chan) : Channel := d.ch[n]

/-- DMA with channel `n` replaced; no other channel changes (40 R140). -/
def Dma.setChan (d : Dma) (n : Chan) (c : Channel) : Dma := { d with ch := d.ch.set n.val c n.isLt }

/-- `Done()` of channel `n`: clears `enabled` and `trigger` (41 R193). -/
def Dma.done (d : Dma) (n : Chan) : Dma := d.setChan n { d.chan n with enabled := false, trigger := false }

/-- `SetIRQ(n)` (41 R190). -/
def Dma.setIrq (d : Dma) (n : Chan) : Dma := { d with flags := setFlag d.flags n }

/-- A side-band operation on channel `n`; a number above 6 is refused (41 R194). -/
def withChannel (n : Nat) (f : Chan → Out) : Out :=
  if h : n < 7 then f ⟨n, h⟩ else .refused (.noSuchChannel n)

/-- A bus write of a register that dispatches nothing; refused inside a transfer engine invocation (70 R390; Log 7). -/
def busWrite (f : Dma → Dma) (s : State) : Out :=
  if s.dma.inCallback then .refused .busWriteInCallback else .next (s.setDma (f s.dma))

/-- A bus write of a register of channel `n`. -/
def channelWrite (n : Chan) (f : Channel → Channel) (s : State) : Out :=
  busWrite (fun d => d.setChan n (f (d.chan n))) s

/-- What a conforming transfer engine does to DMA (41 R197, R198): `Done(n)`, then `SetIRQ(n)` if the mask bit is set. Log 5. -/
def engineRun (d : Dma) (n : Chan) : Dma :=
  let d1 := d.done n
  if irqEnabled d1 n then d1.setIrq n else d1

/-- A channel-control write on channel `n` has stored its fields and is to invoke the transfer engine (41 R195; Log 25). -/
def Dma.startDispatch (d : Dma) (n : Chan) : Dma := { d with dispatching := some n }

/-- DMA while the bound engine runs (10 R43(b)). -/
def Dma.enterCallback (d : Dma) : Dma := { d with inCallback := true }

/-- DMA when the engine has returned and the dispatching write completes. -/
def Dma.leaveCallback (d : Dma) : Dma := { d with inCallback := false, dispatching := none }

/-- `Trigger(n)` (41 R196): the one synchronous invocation of the bound engine for the write that is dispatching channel `n`, active on the
fields it stored. Refused inside an invocation (70 R390), without such a write (30 R137, 41 R195), with no engine bound (41 R202). -/
def trigger (n : Chan) (s : State) : Out :=
  if s.dma.inCallback then .refused .nestedTrigger
  else if s.dma.dispatching = some n ∧ isActive (s.dma.chan n) = true then
    match s.dma.engine with
    | none => .refused .noEngineBound
    | some _ =>
      .next { s with
        dma := (engineRun s.dma.enterCallback n).leaveCallback, result := .completed,
        engineCalls := s.engineCalls ++ [{ port := n, dma := s.dma.enterCallback }] }
  else .refused (.noDispatchingWrite n)

/-- A channel-control write (40 R152): the sync check, the store of the nine fields, then the dispatch if the channel is active on the
fields just written (41 R195). -/
def ctrlWrite (n : Chan) (v : Word) (s : State) : Out :=
  match SyncMode.ofBits (v.extractLsb' 9 2) with
  | none => .next (s.raise (.invalidConfiguration n v))
  | some m =>
    if s.dma.inCallback then .refused .busWriteInCallback
    else
      let c := loadCtrl v m (s.dma.chan n)
      let stored := s.dma.setChan n c
      if isActive c then trigger n (s.setDma (stored.startDispatch n)) else .next (s.setDma stored)

/-! ## GPA -/

/-- `Begin` on a polygon word (42 R210). -/
def beginPolygon (w0 : Word) (ctx : PolyCtx) : Polygon :=
  let gouraud := w0.getLsbD 28
  let quad := w0.getLsbD 27
  let textured := w0.getLsbD 26
  let vc := if quad then 4 else 3
  { gouraud := gouraud, quad := quad, vc := vc, textured := textured, semi := w0.getLsbD 25, raw := w0.getLsbD 24,
    expected := polygonExpected vc textured gouraud, ctx := ctx, decoded := none }

/-- `Begin` on a rectangle word (43 R240). -/
def beginRectangle (w0 : Word) (ctx : DrawCtx) : Rectangle :=
  let size := sizeClassOf w0
  let textured := w0.getLsbD 26
  { size := size, textured := textured, semi := w0.getLsbD 25, raw := w0.getLsbD 24,
    expected := rectangleExpected size textured, ctx := ctx }

/-- `BEGIN`: replaces any primitive under assembly and empties the buffer (42 R210, 43 R240); another first word is refused (30 R132). -/
def gpaBegin (w0 : Word) (ctx : DrawCtx) (s : State) : Out :=
  if isPolygonWord w0 then .next (s.setGpa { prim := .polygon (beginPolygon w0 ctx.toPoly), buf := [] })
  else if isRectangleWord w0 then .next (s.setGpa { prim := .rectangle (beginRectangle w0 ctx), buf := [] })
  else .refused (.notAPrimitive w0)

/-- `ADD` (42 R214): appends one word; refused without a primitive and when it is ready (70 R392, R394). -/
def gpaAdd (w : Word) (s : State) : Out :=
  match expectedOf s.gpa.prim with
  | none => .refused .noPrimitive
  | some e =>
    if s.gpa.buf.length < e then .next (s.setGpa { s.gpa with buf := s.gpa.buf ++ [w] })
    else .refused .addWhenReady

/-- `READY` (42 R215). -/
def gpaReady (s : State) : Out :=
  match expectedOf s.gpa.prim with
  | none => .refused .noPrimitive
  | some e => .next (s.reply (.bit (s.gpa.buf.length == e)))

/-- The walk of `SetupArrays` over the words that are left (42 R217): per vertex a colour word if Gouraud, a position word, a UV word
if textured. `c` is the flat colour. -/
def walkVertices (gouraud textured : Bool) (c : BitVec 24) (k : Nat) (ws : List Word) : PolyArrays :=
  match k with
  | 0 => { color := [], pos := [], uvw := [] }
  | k + 1 =>
    let color := if gouraud then colorOf (ws.headD 0) else c
    let ws1 := if gouraud then ws.tail else ws
    let pos := ws1.headD 0
    let ws2 := ws1.tail
    let uvw := if textured then [ws2.headD 0] else []
    let ws3 := if textured then ws2.tail else ws2
    let rest := walkVertices gouraud textured c k ws3
    { color := color :: rest.color, pos := pos :: rest.pos, uvw := uvw ++ rest.uvw }

/-- Neutral gray, the colour of a raw-textured polygon (42 R220). -/
def neutralGray : BitVec 24 := 0x808080

/-- `SetupArrays` (42 R217): a flat polygon consumes the first slot for its colour; a raw-textured one then has every colour
overridden. -/
def setupArrays (p : Polygon) (buf : List Word) : PolyArrays :=
  let a := walkVertices p.gouraud p.textured (colorOf (buf.headD 0)) p.vc (if p.gouraud then buf else buf.tail)
  if p.textured && p.raw then { a with color := a.color.map (fun _ => neutralGray) } else a

/-- The CLUT of a polygon: bits 31:16 of the first vertex's UV word (42 R222). -/
def polygonClut (p : Polygon) (a : PolyArrays) : Half := if p.textured then attachment (a.uvw.getD 0 0) else 0

/-- The texture page of a polygon: bits 31:16 of the second vertex's UV word (42 R222). -/
def polygonPage (p : Polygon) (a : PolyArrays) : Half := if p.textured then attachment (a.uvw.getD 1 0) else 0

/-- Dithering of a polygon (42 R221). -/
def polygonDither (p : Polygon) : Bool := p.ctx.ditherEnable && (p.gouraud || !(p.textured && p.raw))

/-- Texture mode of a polygon (42 R223). -/
def polygonTexMode (p : Polygon) (a : PolyArrays) : TexMode :=
  if p.textured then .mode (pageTexMode (polygonPage p a)) else .untextured

/-- Transparency mode of a polygon (42 R224). -/
def polygonTransMode (p : Polygon) (a : PolyArrays) : TransMode :=
  if p.semi then .blend (if p.textured then pageBlend (polygonPage p a) else p.ctx.globalBlend) else .solid

/-- The record of vertex `i` of a polygon (42 R225). -/
def polygonVertex (p : Polygon) (a : PolyArrays) (i : Nat) : VertexInfo :=
  let pos := a.pos.getD i 0
  let color := a.color.getD i 0
  let uvw := a.uvw.getD i 0
  { x := lowHalf pos, y := highHalf pos, r := color.extractLsb' 0 8, g := color.extractLsb' 8 8, b := color.extractLsb' 16 8,
    u := if p.textured then uvU uvw else 0, v := if p.textured then uvV uvw else 0, clut := polygonClut p a, page := polygonPage p a,
    texMode := polygonTexMode p a, dither := polygonDither p, transMode := polygonTransMode p a }

/-- The first triangle, and for four vertices the second (42 R226). -/
def trianglesOf (v : Nat → VertexInfo) (quad : Bool) : List Triangle :=
  if quad then [{ a := v 0, b := v 1, c := v 2 }, { a := v 1, b := v 2, c := v 3 }] else [{ a := v 0, b := v 1, c := v 2 }]

/-- Width and height of a rectangle (43 R244). -/
def rectangleSize (r : Rectangle) (buf : List Word) : Half × Half :=
  match r.size with
  | .one => (1, 1)
  | .eight => (8, 8)
  | .sixteen => (16, 16)
  | .variable =>
    let d := buf.getD (if r.textured then 3 else 2) 0
    (lowHalf d, highHalf d)

/-- The colour of a rectangle (43 R245); a textured raw one depends on the open parameter (43 R249). -/
def rectangleColor (r : Rectangle) (buf : List Word) : BitVec 24 :=
  if r.textured && r.raw && Config.rectRawGray then neutralGray else colorOf (buf.headD 0)

/-- Corner `i` of a rectangle: 1 and 3 at the far `x`, 2 and 3 at the far `y`, sums modulo 2^16 (43 R245 to R250). -/
def rectangleVertex (r : Rectangle) (buf : List Word) (i : Nat) : VertexInfo :=
  let color := rectangleColor r buf
  let size := rectangleSize r buf
  let dx := if i = 1 ∨ i = 3 then size.1 else 0
  let dy := if i = 2 ∨ i = 3 then size.2 else 0
  let pos := buf.getD 1 0
  let uvw := buf.getD 2 0
  { x := rectX pos + dx, y := rectY pos + dy, r := color.extractLsb' 0 8, g := color.extractLsb' 8 8, b := color.extractLsb' 16 8,
    u := if r.textured then uvU uvw + dx else 0, v := if r.textured then uvV uvw + dy else 0,
    clut := if r.textured then attachment uvw else 0, page := r.ctx.page,
    texMode := if r.textured then .mode r.ctx.depth else .untextured, dither := false,
    transMode := if r.semi then .blend r.ctx.globalBlend else .solid }

/-- The operation completes having emitted triangles (42 R226, 43 R251). -/
def State.emit (g : Gpa) (ts : List Triangle) (s : State) : State :=
  { s with gpa := g, result := .completed, toRenderer := s.toRenderer ++ ts }

/-- `DRAW` (42 R216, 43 R243): refused unless the primitive is ready (70 R393). A polygon decodes once, lazily. -/
def gpaDraw (s : State) : Out :=
  match s.gpa.prim with
  | .none => .refused .noPrimitive
  | .polygon p =>
    if s.gpa.buf.length = p.expected then
      let a := p.decoded.getD (setupArrays p s.gpa.buf)
      .next (s.emit { s.gpa with prim := .polygon { p with decoded := some a } } (trianglesOf (polygonVertex p a) p.quad))
    else .refused .drawNotReady
  | .rectangle r =>
    if s.gpa.buf.length = r.expected then .next (s.emit s.gpa (trianglesOf (rectangleVertex r s.gpa.buf) true))
    else .refused .drawNotReady

/-- `ADD` of each word in turn. -/
def gpaAddAll (ws : List Word) (s : State) : Out :=
  match ws with
  | [] => .next s
  | w :: rest => andThen (gpaAdd w s) (gpaAddAll rest)

/-- A whole primitive as its command source drives it: `BEGIN w0`, `ADD` of every word, the first of them `w0`, `DRAW` (10 R48, 95 program 3;
Log 15). -/
def runPrimitive (ctx : DrawCtx) (w0 : Word) (ws : List Word) (s : State) : Out :=
  andThen (gpaBegin w0 ctx s) (fun s1 => andThen (gpaAddAll (w0 :: ws) s1) gpaDraw)

/-! ## PAD: exchanges -/

/-- What one exchange that ends in order answers and leaves (44 R260). -/
structure PadStep where
  reply : PadReply
  pad : Pad
  log : List LogEntry
deriving DecidableEq, Repr

/-- How one exchange ends: in order; with an error, the pad unchanged; or no rule of the spec covers the state (Log 18). -/
inductive PadOutcome where
  | answer (x : PadStep)
  | raise (e : ErrorKind)
  | noRule
deriving DecidableEq, Repr

/-- `Advance(r)` (44 R266). -/
def Pad.advance (p : Pad) (r : Byte) : PadStep :=
  { reply := { resp := r, ack := true }, pad := { p with seq := p.seq + 1, ack := true }, log := [] }

/-- `ApplySwitch()` (44 R268). -/
def Pad.applySwitch (p : Pad) : Pad :=
  match p.pendingSwitch with
  | .none => p
  | .toConfig => { p with mode := .config, pendingSwitch := .none }
  | .toNormal => { p with mode := .normal, pendingSwitch := .none }

/-- `EndDialogue(r)` (44 R267). -/
def Pad.endDialogue (p : Pad) (r : Byte) : PadStep :=
  { reply := { resp := r, ack := false }, pad := Pad.applySwitch { p with seq := 0, ack := false }, log := [] }

/-- A dialogue cut off by the pad, at an abort or an overrun (44 R269, R272). -/
def Pad.cutOff (p : Pad) (log : List LogEntry) : PadStep :=
  { reply := { resp := 0xFF, ack := false }, pad := { p with seq := 0, ack := false, pendingSwitch := .none }, log := log }

/-- A step 2 to 7 of a Config-mode dialogue: step 7 ends it (44 R297). -/
def Pad.finish (p : Pad) (r : Byte) : PadStep := if p.seq = 7 then p.endDialogue r else p.advance r

/-- Normal mode, steps 0 to 7 (44 R270 to R276). -/
def Pad.normalStep (p : Pad) (d : Byte) : PadStep :=
  match p.seq with
  | 0 => Pad.advance { p with cmd := d } (if p.analog then 0x73 else 0x41)
  | 1 => p.advance 0x5A
  | 2 =>
    if p.cmd = 0x43#8 ∧ p.analog = false then p.cutOff []
    else if p.cmd = 0x43#8 ∧ d = 0x01#8 then Pad.advance { p with pendingSwitch := .toConfig } (buttonsLow p.buttons)
    else p.advance (buttonsLow p.buttons)
  | 3 => if p.analog then p.advance (buttonsHigh p.buttons) else p.endDialogue (buttonsHigh p.buttons)
  | 4 => p.advance p.rightX
  | 5 => p.advance p.rightY
  | 6 => p.advance p.leftX
  | _ => p.endDialogue p.leftY

/-- Command 0x42: the buttons and axes (44 R283). -/
def Pad.config42 (p : Pad) : PadStep :=
  p.finish
    (match p.seq with
    | 2 => buttonsLow p.buttons
    | 3 => buttonsHigh p.buttons
    | 4 => p.rightX
    | 5 => p.rightY
    | 6 => p.leftX
    | _ => p.leftY)

/-- Command 0x43: a data byte 0 at step 2 schedules the return to Normal (44 R284, R285). -/
def Pad.config43 (p : Pad) (d : Byte) : PadStep :=
  if p.seq = 2 ∧ d = 0x00#8 then Pad.finish { p with pendingSwitch := .toNormal } Config.padExitEcho else p.finish 0x00

/-- Command 0x44: staged at step 2, committed at step 3 by a data byte 2 (44 R286 to R288). -/
def Pad.config44 (p : Pad) (d : Byte) : PadStep :=
  if p.seq = 2 then Pad.finish { p with ledPending := d } 0x00
  else if p.seq = 3 ∧ d = 0x02#8 then Pad.finish { p with led := p.ledPending } 0x00
  else p.finish 0x00

/-- Command 0x45: status (44 R289). -/
def Pad.config45 (p : Pad) : PadStep :=
  p.finish
    (match p.seq with
    | 2 => 0x01
    | 3 => 0x02
    | 4 => p.led
    | 5 => 0x02
    | 6 => 0x01
    | _ => 0x00)

/-- The byte of command 0x46 at steps 3 to 7 for a selector (44 R291). -/
def info46 (sel : Byte) (step : Nat) : Byte :=
  if sel = 0x00#8 then [0x00, 0x01, 0x02, 0x00, 0x0A].getD (step - 3) 0x00
  else if sel = 0x01#8 then [0x00, 0x01, 0x01, 0x01, 0x14].getD (step - 3) 0x00
  else 0x00

/-- Command 0x46: the selector is the data byte of step 2 (44 R290, R291). -/
def Pad.config46 (p : Pad) (d : Byte) : PadStep :=
  if p.seq = 2 then Pad.finish { p with sel := d } 0x00 else p.finish (info46 p.sel p.seq)

/-- Command 0x47 (44 R292). -/
def Pad.config47 (p : Pad) : PadStep :=
  p.finish
    (match p.seq with
    | 4 => 0x02
    | 6 => 0x01
    | _ => 0x00)

/-- Command 0x4C: the selector is the data byte of step 2, answered from at step 5 (44 R293, R294). -/
def Pad.config4C (p : Pad) (d : Byte) : PadStep :=
  if p.seq = 2 then Pad.finish { p with sel := d } 0x00
  else if p.seq = 5 then p.finish (if p.sel = 0x00#8 then 0x04 else if p.sel = 0x01#8 then 0x07 else 0x00)
  else p.finish 0x00

/-- Slot `i` of the rumble configuration. -/
def Pad.rumbleAt (p : Pad) (i : Nat) : Byte := p.rumble.toList.getD i 0

/-- The rumble configuration with slot `i` replaced. -/
def Pad.setRumble (p : Pad) (i : Nat) (d : Byte) : Pad := { p with rumble := p.rumble.setIfInBounds i d }

/-- Command 0x4D: the old byte of the slot leaves as the new one enters (44 R295, R296). -/
def Pad.config4D (p : Pad) (d : Byte) : PadStep :=
  Pad.finish (p.setRumble (p.seq - 2) d) (p.rumbleAt (p.seq - 2))

/-- Config mode, steps 2 to 7, by the latched command (44 R282): an unknown one is an error at step 2, and no rule covers it later. -/
def Pad.configData (p : Pad) (d : Byte) : PadOutcome :=
  if p.cmd = 0x42#8 then .answer p.config42
  else if p.cmd = 0x43#8 then .answer (p.config43 d)
  else if p.cmd = 0x44#8 then .answer (p.config44 d)
  else if p.cmd = 0x45#8 then .answer p.config45
  else if p.cmd = 0x46#8 then .answer (p.config46 d)
  else if p.cmd = 0x47#8 then .answer p.config47
  else if p.cmd = 0x4C#8 then .answer (p.config4C d)
  else if p.cmd = 0x4D#8 then .answer (p.config4D d)
  else if p.seq = 2 then .raise (.unrecognizedConfigCommand p.cmd)
  else .noRule

/-- Config mode, steps 0 to 7 (44 R280 to R282). -/
def Pad.configStep (p : Pad) (d : Byte) : PadOutcome :=
  match p.seq with
  | 0 => .answer (Pad.advance { p with cmd := d } 0xF3)
  | 1 => .answer (p.advance 0x5A)
  | _ => p.configData d

/-- One exchange, the tests in the order of 44 R263: disconnected (R261), overrun (R269), then the mode. -/
def Pad.exchange (p : Pad) (d : Byte) : PadOutcome :=
  if p.connected = false then .answer { reply := { resp := 0xFF, ack := false }, pad := { p with ack := false }, log := [] }
  else if 7 < p.seq then .answer (p.cutOff [.report (.unknownSequenceStep p.seq)])
  else
    match p.mode with
    | .normal => .answer (p.normalStep d)
    | .config => p.configStep d

/-- `XCHG` (44 R260). -/
def padExchange (d : Byte) (s : State) : Out :=
  match s.pad.exchange d with
  | .answer x => .next { s.setPad x.pad (.pad x.reply) with log := s.log ++ x.log }
  | .raise e => .next (s.raise e)
  | .noRule => .refused .noRuleForPadStep

/-- What a run of exchanges has answered and left, and how it ended. -/
structure DialogueRun where
  replies : List PadReply
  pad : Pad
  log : List LogEntry
  error : Option ErrorKind
  covered : Bool
deriving DecidableEq, Repr

/-- The serial master sends the bytes in turn and stops at the first acknowledge of 0, or at an error (30 R135, R139; Log 16). -/
def Pad.runDialogue (bytes : List Byte) (p : Pad) : DialogueRun :=
  match bytes with
  | [] => { replies := [], pad := p, log := [], error := none, covered := true }
  | d :: ds =>
    match p.exchange d with
    | .raise e => { replies := [], pad := p, log := [], error := some e, covered := true }
    | .noRule => { replies := [], pad := p, log := [], error := none, covered := false }
    | .answer x =>
      if x.reply.ack then
        let rest := Pad.runDialogue ds x.pad
        { rest with replies := x.reply :: rest.replies, log := x.log ++ rest.log }
      else { replies := [x.reply], pad := x.pad, log := x.log, error := none, covered := true }

/-- A dialogue, as its exchanges (30 R139). -/
def padDialogue (bytes : List Byte) (s : State) : Out :=
  let run := s.pad.runDialogue bytes
  if run.covered then .next { s.setPad run.pad (.dialogue run.replies run.error) with log := s.log ++ run.log }
  else .refused .noRuleForPadStep

/-! ## PAD: the input side -/

/-- The buttons register after a poll: each mapped bit follows its button, the others keep their value (45 R314). -/
def pollButtons (btn : List (Nat × Fin 16)) (snap : Snapshot) (b : Half) : Half :=
  match btn with
  | [] => b
  | (i, k) :: rest => pollButtons rest snap (setButton b k (heldIn snap i))

/-- Whether the chord of a profile is held (45 R317). -/
def chordHeld (prof : Profile) (snap : Snapshot) : Bool := prof.chord.all (heldIn snap)

/-- A poll of a recognised device (45 R314, R315, R317, together R320); none if an axis it reads is outside the contract. -/
def pollPad (prof : Profile) (snap : Snapshot) (p : Pad) : Option Pad :=
  match axisOf snap prof.iRX, axisOf snap prof.iRY, axisOf snap prof.iLX, axisOf snap prof.iLY with
  | some rx, some ry, some lx, some ly =>
    let now := chordHeld prof snap
    some { p with
      buttons := pollButtons prof.btn snap p.buttons, rightX := rx, rightY := ry, leftX := lx, leftY := ly,
      analog := if now && !p.chordPrev then !p.analog else p.analog, chordPrev := now }
  | _, _, _, _ => none

/-- A poll with the profile its device name gives: none is reported and ignored (45 R312). -/
def pollWith (prof : Option Profile) (snap : Snapshot) (s : State) : Out :=
  match prof with
  | none => .next { s.reply .completed with log := s.log ++ [.unknownDevice snap.name] }
  | some p =>
    match pollPad p snap s.pad with
    | some pad => .next (s.setPad pad .completed)
    | none => .refused .axisOutsideContract

end Sys2Proof.Machine
end

