-- ==== Sys2Proof/Machine/Assembler.lean ====
section
/-! DEFINITION. The operations of the primitive assembler (spec/42_gpu_polygon.md R210 to R227, spec/43_gpu_rectangle.md R240 to R251). -/

namespace Sys2Proof.Machine

/-- `BEGIN` (42 R210, 43 R240). -/
def execBeginPrim (w0 : Word) (ctx : DrawCtx) (s : State) : Out :=
  gpaBegin w0 ctx s

/-- `ADD` (42 R214, 43 R242). -/
def execAddWord (w : Word) (s : State) : Out :=
  gpaAdd w s

/-- `READY` (42 R215, 43 R242). -/
def execReady (s : State) : Out :=
  gpaReady s

/-- `DRAW` (42 R216, 43 R243). -/
def execDraw (s : State) : Out :=
  gpaDraw s

end Sys2Proof.Machine
end

