-- ==== Sys2Proof/Machine/Controller.lean ====
section
/-! DEFINITION. Exchanges, dialogues, polling and connectivity of the pad (spec/44_pad_protocol.md, spec/45_pad_input.md). -/

namespace Sys2Proof.Machine

/-- `XCHG` (44 R260 to R298). -/
def execXchg (d : Byte) (s : State) : Out :=
  padExchange d s

/-- `POLL` (45 R310 to R320). -/
def execPoll (snap : Snapshot) (s : State) : Out :=
  pollWith (Config.profileOf snap.name) snap s

/-- `CONNECT` (45 R319). -/
def execConnect (c : Bool) (s : State) : Out :=
  .next (s.setPad { s.pad with connected := c } .completed)

/-- `PAD.N.POLL` (44 R300). -/
def execPadNPoll (b0 : Byte) (data : List Byte) (s : State) : Out :=
  padDialogue (b0 :: data) s

/-- `PAD.N.CFG` (44 R301). -/
def execPadNCfg (data : List Byte) (s : State) : Out :=
  padDialogue (0x43#8 :: data) s

/-- `PAD.C.42` (44 R283). -/
def execPadC42 (d1 d2 d3 d4 d5 d6 d7 : Byte) (s : State) : Out :=
  padDialogue [0x42#8, d1, d2, d3, d4, d5, d6, d7] s

/-- `PAD.C.43` (44 R284, R285). -/
def execPadC43 (d1 d2 d3 d4 d5 d6 d7 : Byte) (s : State) : Out :=
  padDialogue [0x43#8, d1, d2, d3, d4, d5, d6, d7] s

/-- `PAD.C.44` (44 R286 to R288). -/
def execPadC44 (d1 d2 d3 d4 d5 d6 d7 : Byte) (s : State) : Out :=
  padDialogue [0x44#8, d1, d2, d3, d4, d5, d6, d7] s

/-- `PAD.C.45` (44 R289). -/
def execPadC45 (d1 d2 d3 d4 d5 d6 d7 : Byte) (s : State) : Out :=
  padDialogue [0x45#8, d1, d2, d3, d4, d5, d6, d7] s

/-- `PAD.C.46` (44 R290, R291). -/
def execPadC46 (d1 d2 d3 d4 d5 d6 d7 : Byte) (s : State) : Out :=
  padDialogue [0x46#8, d1, d2, d3, d4, d5, d6, d7] s

/-- `PAD.C.47` (44 R292). -/
def execPadC47 (d1 d2 d3 d4 d5 d6 d7 : Byte) (s : State) : Out :=
  padDialogue [0x47#8, d1, d2, d3, d4, d5, d6, d7] s

/-- `PAD.C.4C` (44 R293, R294). -/
def execPadC4C (d1 d2 d3 d4 d5 d6 d7 : Byte) (s : State) : Out :=
  padDialogue [0x4C#8, d1, d2, d3, d4, d5, d6, d7] s

/-- `PAD.C.4D` (44 R295, R296). -/
def execPadC4D (d1 d2 d3 d4 d5 d6 d7 : Byte) (s : State) : Out :=
  padDialogue [0x4D#8, d1, d2, d3, d4, d5, d6, d7] s

end Sys2Proof.Machine
end

