-- ==== Sys2Proof/Machine/DmaChannel.lean ====
section
/-! DEFINITION. Bus operations on the channel registers (spec/40_dma_channel_registers.md). -/

namespace Sys2Proof.Machine

/-- `RD32.BASE` (40 R141). -/
def execRd32Base (n : Chan) (s : State) : Out :=
  .next (s.reply (.word (packBase (s.dma.chan n))))

/-- `WR32.BASE` (40 R142). -/
def execWr32Base (n : Chan) (v : Word) (s : State) : Out :=
  channelWrite n (loadBase v) s

/-- `RD16.BASE` (40 R143). -/
def execRd16Base (n : Chan) (s : State) : Out :=
  .next (s.reply (.half (lowHalf (packBase (s.dma.chan n)))))

/-- `WR16.BASE` (40 R144). -/
def execWr16Base (n : Chan) (h : Half) (s : State) : Out :=
  channelWrite n (loadBase (widen h)) s

/-- `WR32.BLOCK` (40 R146). -/
def execWr32Block (n : Chan) (v : Word) (s : State) : Out :=
  channelWrite n (loadBlock v) s

/-- `RD32.BLOCK` (40 R147). -/
def execRd32Block (n : Chan) (s : State) : Out :=
  .next (s.reply (.word (packBlock (s.dma.chan n))))

/-- `RD16.BLOCK` (40 R148). -/
def execRd16Block (n : Chan) (s : State) : Out :=
  .next (s.reply (.half (lowHalf (packBlock (s.dma.chan n)))))

/-- `WR16.BLOCK` (40 R149). -/
def execWr16Block (n : Chan) (h : Half) (s : State) : Out :=
  channelWrite n (loadBlock (widen h)) s

/-- `RD32.CTRL` (40 R151). -/
def execRd32Ctrl (n : Chan) (s : State) : Out :=
  .next (s.reply (.word (packCtrl (s.dma.chan n))))

/-- `WR32.CTRL` (40 R152). -/
def execWr32Ctrl (n : Chan) (v : Word) (s : State) : Out :=
  ctrlWrite n v s

/-- `RD16.CTRL` (40 R153). -/
def execRd16Ctrl (n : Chan) (s : State) : Out :=
  .next (s.reply (.half (lowHalf (packCtrl (s.dma.chan n)))))

/-- `WR16.CTRL` (40 R154). -/
def execWr16Ctrl (n : Chan) (h : Half) (s : State) : Out :=
  ctrlWrite n (widen h) s

/-- `RD8.BASE` (40 R145). -/
def execRd8Base (n : Chan) (k : BitVec 2) (s : State) : Out :=
  .next (s.raise (.unhandledAddress (channelByteAddr n 0x0#32 k)))

/-- `WR8.BASE` (40 R145). -/
def execWr8Base (n : Chan) (k : BitVec 2) (_b : Byte) (s : State) : Out :=
  .next (s.raise (.unhandledAddress (channelByteAddr n 0x0#32 k)))

/-- `RD8.BLOCK` (40 R150). -/
def execRd8Block (n : Chan) (k : BitVec 2) (s : State) : Out :=
  .next (s.raise (.unhandledAddress (channelByteAddr n 0x4#32 k)))

/-- `WR8.BLOCK` (40 R150). -/
def execWr8Block (n : Chan) (k : BitVec 2) (_b : Byte) (s : State) : Out :=
  .next (s.raise (.unhandledAddress (channelByteAddr n 0x4#32 k)))

/-- `RD8.CTRL` (40 R157). -/
def execRd8Ctrl (n : Chan) (k : BitVec 2) (s : State) : Out :=
  .next (s.raise (.unhandledAddress (channelByteAddr n 0x8#32 k)))

/-- `WR8.CTRL` (40 R157). -/
def execWr8Ctrl (n : Chan) (k : BitVec 2) (_b : Byte) (s : State) : Out :=
  .next (s.raise (.unhandledAddress (channelByteAddr n 0x8#32 k)))

end Sys2Proof.Machine
end

