-- ==== Sys2Proof/Machine/DmaGlobal.lean ====
section
/-! DEFINITION. Bus operations on DPCR and DICR, and the side-band operations (spec/41_dma_global_irq_trigger.md). -/

namespace Sys2Proof.Machine

/-- `RD32.DPCR` (41 R170). -/
def execRd32Dpcr (s : State) : Out :=
  .next (s.reply (.word s.dma.dpcr))

/-- `WR32.DPCR` (41 R171). -/
def execWr32Dpcr (v : Word) (s : State) : Out :=
  busWrite (fun d => { d with dpcr := v }) s

/-- `RD16.DPCR` (41 R172). -/
def execRd16Dpcr (s : State) : Out :=
  .next (s.reply (.half (lowHalf s.dma.dpcr)))

/-- `WR16.DPCR` (41 R173). -/
def execWr16Dpcr (h : Half) (s : State) : Out :=
  busWrite (fun d => { d with dpcr := widen h }) s

/-- `RD32.DICR` (41 R174). -/
def execRd32Dicr (s : State) : Out :=
  .next (s.reply (.word (packDicr s.dma)))

/-- `WR32.DICR` (41 R175). -/
def execWr32Dicr (v : Word) (s : State) : Out :=
  busWrite (loadDicr v) s

/-- `RD16.DICRL` (41 R178). -/
def execRd16DicrL (s : State) : Out :=
  .next (s.reply (.half (packDicrL s.dma)))

/-- `RD16.DICRH` (41 R179). -/
def execRd16DicrH (s : State) : Out :=
  .next (s.reply (.half (packDicrH s.dma)))

/-- `WR16.DICRL` (41 R180). -/
def execWr16DicrL (h : Half) (s : State) : Out :=
  busWrite (loadDicrL h) s

/-- `WR16.DICRH` (41 R181). -/
def execWr16DicrH (h : Half) (s : State) : Out :=
  busWrite (loadDicrH h) s

/-- `RD8.DICR0` (41 R182). -/
def execRd8Dicr0 (s : State) : Out :=
  .next (s.reply (.byte (packDicr0 s.dma)))

/-- `RD8.DICR1` (41 R183). -/
def execRd8Dicr1 (s : State) : Out :=
  .next (s.reply (.byte (packDicr1 s.dma)))

/-- `RD8.DICR2` (41 R184). -/
def execRd8Dicr2 (s : State) : Out :=
  .next (s.reply (.byte (packDicr2 s.dma)))

/-- `RD8.DICR3` (41 R185). -/
def execRd8Dicr3 (s : State) : Out :=
  .next (s.reply (.byte (packDicr3 s.dma)))

/-- `WR8.DICR0` (41 R186). -/
def execWr8Dicr0 (b : Byte) (s : State) : Out :=
  busWrite (loadDicr0 b) s

/-- `WR8.DICR1` (41 R187). -/
def execWr8Dicr1 (b : Byte) (s : State) : Out :=
  busWrite (loadDicr1 b) s

/-- `WR8.DICR2` (41 R188). -/
def execWr8Dicr2 (b : Byte) (s : State) : Out :=
  busWrite (loadDicr2 b) s

/-- `WR8.DICR3` (41 R189). -/
def execWr8Dicr3 (b : Byte) (s : State) : Out :=
  busWrite (loadDicr3 b) s

/-- `SETIRQ` (41 R190). -/
def execSetIrq (n : Nat) (s : State) : Out :=
  withChannel n (fun ch => .next (s.setDma (s.dma.setIrq ch)))

/-- `HASIRQ` (41 R191). -/
def execHasIrq (s : State) : Out :=
  .next (s.reply (.bit (masterFlag s.dma)))

/-- `IRQEN` (41 R192). -/
def execIrqEn (n : Nat) (s : State) : Out :=
  withChannel n (fun ch => .next (s.reply (.bit (irqEnabled s.dma ch))))

/-- `DONE` (41 R193). -/
def execDoneCh (n : Nat) (s : State) : Out :=
  withChannel n (fun ch => .next (s.setDma (s.dma.done ch)))

/-- `TRIGGER`, the invocation inside a dispatching channel-control write (41 R196, 30 R137; Log 25). -/
def execTriggerCh (n : Nat) (s : State) : Out :=
  withChannel n (fun ch => trigger ch s)

end Sys2Proof.Machine
end

