-- ==== Sys2Proof/Machine/Polygon.lean ====
section
/-! DEFINITION. One meaning per polygon opcode (spec/42_gpu_polygon.md R410 to R441): its command word and the words its rule lists (Log 15). -/

namespace Sys2Proof.Machine

/-- `POLY.F3` (42 R410). -/
def execPolyF3 (ctx : PolyCtx) (c0 : BitVec 24) (p0 p1 p2 : Word) (s : State) : Out :=
  runPrimitive ctx.toDraw (cmdWord 0x20#8 c0) [p0, p1, p2] s

/-- `POLY.F3R` (42 R411). -/
def execPolyF3R (ctx : PolyCtx) (c0 : BitVec 24) (p0 p1 p2 : Word) (s : State) : Out :=
  runPrimitive ctx.toDraw (cmdWord 0x21#8 c0) [p0, p1, p2] s

/-- `POLY.F3S` (42 R412). -/
def execPolyF3S (ctx : PolyCtx) (c0 : BitVec 24) (p0 p1 p2 : Word) (s : State) : Out :=
  runPrimitive ctx.toDraw (cmdWord 0x22#8 c0) [p0, p1, p2] s

/-- `POLY.F3SR` (42 R413). -/
def execPolyF3SR (ctx : PolyCtx) (c0 : BitVec 24) (p0 p1 p2 : Word) (s : State) : Out :=
  runPrimitive ctx.toDraw (cmdWord 0x23#8 c0) [p0, p1, p2] s

/-- `POLY.F3T` (42 R414). -/
def execPolyF3T (ctx : PolyCtx) (c0 : BitVec 24) (p0 t0 p1 t1 p2 t2 : Word) (s : State) : Out :=
  runPrimitive ctx.toDraw (cmdWord 0x24#8 c0) [p0, t0, p1, t1, p2, t2] s

/-- `POLY.F3TR` (42 R415). -/
def execPolyF3TR (ctx : PolyCtx) (c0 : BitVec 24) (p0 t0 p1 t1 p2 t2 : Word) (s : State) : Out :=
  runPrimitive ctx.toDraw (cmdWord 0x25#8 c0) [p0, t0, p1, t1, p2, t2] s

/-- `POLY.F3TS` (42 R416). -/
def execPolyF3TS (ctx : PolyCtx) (c0 : BitVec 24) (p0 t0 p1 t1 p2 t2 : Word) (s : State) : Out :=
  runPrimitive ctx.toDraw (cmdWord 0x26#8 c0) [p0, t0, p1, t1, p2, t2] s

/-- `POLY.F3TSR` (42 R417). -/
def execPolyF3TSR (ctx : PolyCtx) (c0 : BitVec 24) (p0 t0 p1 t1 p2 t2 : Word) (s : State) : Out :=
  runPrimitive ctx.toDraw (cmdWord 0x27#8 c0) [p0, t0, p1, t1, p2, t2] s

/-- `POLY.F4` (42 R418). -/
def execPolyF4 (ctx : PolyCtx) (c0 : BitVec 24) (p0 p1 p2 p3 : Word) (s : State) : Out :=
  runPrimitive ctx.toDraw (cmdWord 0x28#8 c0) [p0, p1, p2, p3] s

/-- `POLY.F4R` (42 R419). -/
def execPolyF4R (ctx : PolyCtx) (c0 : BitVec 24) (p0 p1 p2 p3 : Word) (s : State) : Out :=
  runPrimitive ctx.toDraw (cmdWord 0x29#8 c0) [p0, p1, p2, p3] s

/-- `POLY.F4S` (42 R420). -/
def execPolyF4S (ctx : PolyCtx) (c0 : BitVec 24) (p0 p1 p2 p3 : Word) (s : State) : Out :=
  runPrimitive ctx.toDraw (cmdWord 0x2A#8 c0) [p0, p1, p2, p3] s

/-- `POLY.F4SR` (42 R421). -/
def execPolyF4SR (ctx : PolyCtx) (c0 : BitVec 24) (p0 p1 p2 p3 : Word) (s : State) : Out :=
  runPrimitive ctx.toDraw (cmdWord 0x2B#8 c0) [p0, p1, p2, p3] s

/-- `POLY.F4T` (42 R422). -/
def execPolyF4T (ctx : PolyCtx) (c0 : BitVec 24) (p0 t0 p1 t1 p2 t2 p3 t3 : Word) (s : State) : Out :=
  runPrimitive ctx.toDraw (cmdWord 0x2C#8 c0) [p0, t0, p1, t1, p2, t2, p3, t3] s

/-- `POLY.F4TR` (42 R423). -/
def execPolyF4TR (ctx : PolyCtx) (c0 : BitVec 24) (p0 t0 p1 t1 p2 t2 p3 t3 : Word) (s : State) : Out :=
  runPrimitive ctx.toDraw (cmdWord 0x2D#8 c0) [p0, t0, p1, t1, p2, t2, p3, t3] s

/-- `POLY.F4TS` (42 R424). -/
def execPolyF4TS (ctx : PolyCtx) (c0 : BitVec 24) (p0 t0 p1 t1 p2 t2 p3 t3 : Word) (s : State) : Out :=
  runPrimitive ctx.toDraw (cmdWord 0x2E#8 c0) [p0, t0, p1, t1, p2, t2, p3, t3] s

/-- `POLY.F4TSR` (42 R425). -/
def execPolyF4TSR (ctx : PolyCtx) (c0 : BitVec 24) (p0 t0 p1 t1 p2 t2 p3 t3 : Word) (s : State) : Out :=
  runPrimitive ctx.toDraw (cmdWord 0x2F#8 c0) [p0, t0, p1, t1, p2, t2, p3, t3] s

/-- `POLY.G3` (42 R426). -/
def execPolyG3 (ctx : PolyCtx) (c0 : BitVec 24) (p0 c1 p1 c2 p2 : Word) (s : State) : Out :=
  runPrimitive ctx.toDraw (cmdWord 0x30#8 c0) [p0, c1, p1, c2, p2] s

/-- `POLY.G3R` (42 R427). -/
def execPolyG3R (ctx : PolyCtx) (c0 : BitVec 24) (p0 c1 p1 c2 p2 : Word) (s : State) : Out :=
  runPrimitive ctx.toDraw (cmdWord 0x31#8 c0) [p0, c1, p1, c2, p2] s

/-- `POLY.G3S` (42 R428). -/
def execPolyG3S (ctx : PolyCtx) (c0 : BitVec 24) (p0 c1 p1 c2 p2 : Word) (s : State) : Out :=
  runPrimitive ctx.toDraw (cmdWord 0x32#8 c0) [p0, c1, p1, c2, p2] s

/-- `POLY.G3SR` (42 R429). -/
def execPolyG3SR (ctx : PolyCtx) (c0 : BitVec 24) (p0 c1 p1 c2 p2 : Word) (s : State) : Out :=
  runPrimitive ctx.toDraw (cmdWord 0x33#8 c0) [p0, c1, p1, c2, p2] s

/-- `POLY.G3T` (42 R430). -/
def execPolyG3T (ctx : PolyCtx) (c0 : BitVec 24) (p0 t0 c1 p1 t1 c2 p2 t2 : Word) (s : State) : Out :=
  runPrimitive ctx.toDraw (cmdWord 0x34#8 c0) [p0, t0, c1, p1, t1, c2, p2, t2] s

/-- `POLY.G3TR` (42 R431). -/
def execPolyG3TR (ctx : PolyCtx) (c0 : BitVec 24) (p0 t0 c1 p1 t1 c2 p2 t2 : Word) (s : State) : Out :=
  runPrimitive ctx.toDraw (cmdWord 0x35#8 c0) [p0, t0, c1, p1, t1, c2, p2, t2] s

/-- `POLY.G3TS` (42 R432). -/
def execPolyG3TS (ctx : PolyCtx) (c0 : BitVec 24) (p0 t0 c1 p1 t1 c2 p2 t2 : Word) (s : State) : Out :=
  runPrimitive ctx.toDraw (cmdWord 0x36#8 c0) [p0, t0, c1, p1, t1, c2, p2, t2] s

/-- `POLY.G3TSR` (42 R433). -/
def execPolyG3TSR (ctx : PolyCtx) (c0 : BitVec 24) (p0 t0 c1 p1 t1 c2 p2 t2 : Word) (s : State) : Out :=
  runPrimitive ctx.toDraw (cmdWord 0x37#8 c0) [p0, t0, c1, p1, t1, c2, p2, t2] s

/-- `POLY.G4` (42 R434). -/
def execPolyG4 (ctx : PolyCtx) (c0 : BitVec 24) (p0 c1 p1 c2 p2 c3 p3 : Word) (s : State) : Out :=
  runPrimitive ctx.toDraw (cmdWord 0x38#8 c0) [p0, c1, p1, c2, p2, c3, p3] s

/-- `POLY.G4R` (42 R435). -/
def execPolyG4R (ctx : PolyCtx) (c0 : BitVec 24) (p0 c1 p1 c2 p2 c3 p3 : Word) (s : State) : Out :=
  runPrimitive ctx.toDraw (cmdWord 0x39#8 c0) [p0, c1, p1, c2, p2, c3, p3] s

/-- `POLY.G4S` (42 R436). -/
def execPolyG4S (ctx : PolyCtx) (c0 : BitVec 24) (p0 c1 p1 c2 p2 c3 p3 : Word) (s : State) : Out :=
  runPrimitive ctx.toDraw (cmdWord 0x3A#8 c0) [p0, c1, p1, c2, p2, c3, p3] s

/-- `POLY.G4SR` (42 R437). -/
def execPolyG4SR (ctx : PolyCtx) (c0 : BitVec 24) (p0 c1 p1 c2 p2 c3 p3 : Word) (s : State) : Out :=
  runPrimitive ctx.toDraw (cmdWord 0x3B#8 c0) [p0, c1, p1, c2, p2, c3, p3] s

/-- `POLY.G4T` (42 R438). -/
def execPolyG4T (ctx : PolyCtx) (c0 : BitVec 24) (p0 t0 c1 p1 t1 c2 p2 t2 c3 p3 t3 : Word) (s : State) : Out :=
  runPrimitive ctx.toDraw (cmdWord 0x3C#8 c0) [p0, t0, c1, p1, t1, c2, p2, t2, c3, p3, t3] s

/-- `POLY.G4TR` (42 R439). -/
def execPolyG4TR (ctx : PolyCtx) (c0 : BitVec 24) (p0 t0 c1 p1 t1 c2 p2 t2 c3 p3 t3 : Word) (s : State) : Out :=
  runPrimitive ctx.toDraw (cmdWord 0x3D#8 c0) [p0, t0, c1, p1, t1, c2, p2, t2, c3, p3, t3] s

/-- `POLY.G4TS` (42 R440). -/
def execPolyG4TS (ctx : PolyCtx) (c0 : BitVec 24) (p0 t0 c1 p1 t1 c2 p2 t2 c3 p3 t3 : Word) (s : State) : Out :=
  runPrimitive ctx.toDraw (cmdWord 0x3E#8 c0) [p0, t0, c1, p1, t1, c2, p2, t2, c3, p3, t3] s

/-- `POLY.G4TSR` (42 R441). -/
def execPolyG4TSR (ctx : PolyCtx) (c0 : BitVec 24) (p0 t0 c1 p1 t1 c2 p2 t2 c3 p3 t3 : Word) (s : State) : Out :=
  runPrimitive ctx.toDraw (cmdWord 0x3F#8 c0) [p0, t0, c1, p1, t1, c2, p2, t2, c3, p3, t3] s

end Sys2Proof.Machine
end

