-- ==== Sys2Proof/Machine/Rectangle.lean ====
section
/-! DEFINITION. One meaning per rectangle opcode (spec/43_gpu_rectangle.md R442 to R473): its command word and the words its rule lists (Log 15). -/

namespace Sys2Proof.Machine

/-- `RECT.V` (43 R442). -/
def execRectV (ctx : DrawCtx) (c0 : BitVec 24) (p0 dim : Word) (s : State) : Out :=
  runPrimitive ctx (cmdWord 0x60#8 c0) [p0, dim] s

/-- `RECT.VR` (43 R443). -/
def execRectVR (ctx : DrawCtx) (c0 : BitVec 24) (p0 dim : Word) (s : State) : Out :=
  runPrimitive ctx (cmdWord 0x61#8 c0) [p0, dim] s

/-- `RECT.VS` (43 R444). -/
def execRectVS (ctx : DrawCtx) (c0 : BitVec 24) (p0 dim : Word) (s : State) : Out :=
  runPrimitive ctx (cmdWord 0x62#8 c0) [p0, dim] s

/-- `RECT.VSR` (43 R445). -/
def execRectVSR (ctx : DrawCtx) (c0 : BitVec 24) (p0 dim : Word) (s : State) : Out :=
  runPrimitive ctx (cmdWord 0x63#8 c0) [p0, dim] s

/-- `RECT.VT` (43 R446). -/
def execRectVT (ctx : DrawCtx) (c0 : BitVec 24) (p0 t0 dim : Word) (s : State) : Out :=
  runPrimitive ctx (cmdWord 0x64#8 c0) [p0, t0, dim] s

/-- `RECT.VTR` (43 R447). -/
def execRectVTR (ctx : DrawCtx) (c0 : BitVec 24) (p0 t0 dim : Word) (s : State) : Out :=
  runPrimitive ctx (cmdWord 0x65#8 c0) [p0, t0, dim] s

/-- `RECT.VTS` (43 R448). -/
def execRectVTS (ctx : DrawCtx) (c0 : BitVec 24) (p0 t0 dim : Word) (s : State) : Out :=
  runPrimitive ctx (cmdWord 0x66#8 c0) [p0, t0, dim] s

/-- `RECT.VTSR` (43 R449). -/
def execRectVTSR (ctx : DrawCtx) (c0 : BitVec 24) (p0 t0 dim : Word) (s : State) : Out :=
  runPrimitive ctx (cmdWord 0x67#8 c0) [p0, t0, dim] s

/-- `RECT.1` (43 R450). -/
def execRect1 (ctx : DrawCtx) (c0 : BitVec 24) (p0 : Word) (s : State) : Out :=
  runPrimitive ctx (cmdWord 0x68#8 c0) [p0] s

/-- `RECT.1R` (43 R451). -/
def execRect1R (ctx : DrawCtx) (c0 : BitVec 24) (p0 : Word) (s : State) : Out :=
  runPrimitive ctx (cmdWord 0x69#8 c0) [p0] s

/-- `RECT.1S` (43 R452). -/
def execRect1S (ctx : DrawCtx) (c0 : BitVec 24) (p0 : Word) (s : State) : Out :=
  runPrimitive ctx (cmdWord 0x6A#8 c0) [p0] s

/-- `RECT.1SR` (43 R453). -/
def execRect1SR (ctx : DrawCtx) (c0 : BitVec 24) (p0 : Word) (s : State) : Out :=
  runPrimitive ctx (cmdWord 0x6B#8 c0) [p0] s

/-- `RECT.1T` (43 R454). -/
def execRect1T (ctx : DrawCtx) (c0 : BitVec 24) (p0 t0 : Word) (s : State) : Out :=
  runPrimitive ctx (cmdWord 0x6C#8 c0) [p0, t0] s

/-- `RECT.1TR` (43 R455). -/
def execRect1TR (ctx : DrawCtx) (c0 : BitVec 24) (p0 t0 : Word) (s : State) : Out :=
  runPrimitive ctx (cmdWord 0x6D#8 c0) [p0, t0] s

/-- `RECT.1TS` (43 R456). -/
def execRect1TS (ctx : DrawCtx) (c0 : BitVec 24) (p0 t0 : Word) (s : State) : Out :=
  runPrimitive ctx (cmdWord 0x6E#8 c0) [p0, t0] s

/-- `RECT.1TSR` (43 R457). -/
def execRect1TSR (ctx : DrawCtx) (c0 : BitVec 24) (p0 t0 : Word) (s : State) : Out :=
  runPrimitive ctx (cmdWord 0x6F#8 c0) [p0, t0] s

/-- `RECT.8` (43 R458). -/
def execRect8 (ctx : DrawCtx) (c0 : BitVec 24) (p0 : Word) (s : State) : Out :=
  runPrimitive ctx (cmdWord 0x70#8 c0) [p0] s

/-- `RECT.8R` (43 R459). -/
def execRect8R (ctx : DrawCtx) (c0 : BitVec 24) (p0 : Word) (s : State) : Out :=
  runPrimitive ctx (cmdWord 0x71#8 c0) [p0] s

/-- `RECT.8S` (43 R460). -/
def execRect8S (ctx : DrawCtx) (c0 : BitVec 24) (p0 : Word) (s : State) : Out :=
  runPrimitive ctx (cmdWord 0x72#8 c0) [p0] s

/-- `RECT.8SR` (43 R461). -/
def execRect8SR (ctx : DrawCtx) (c0 : BitVec 24) (p0 : Word) (s : State) : Out :=
  runPrimitive ctx (cmdWord 0x73#8 c0) [p0] s

/-- `RECT.8T` (43 R462). -/
def execRect8T (ctx : DrawCtx) (c0 : BitVec 24) (p0 t0 : Word) (s : State) : Out :=
  runPrimitive ctx (cmdWord 0x74#8 c0) [p0, t0] s

/-- `RECT.8TR` (43 R463). -/
def execRect8TR (ctx : DrawCtx) (c0 : BitVec 24) (p0 t0 : Word) (s : State) : Out :=
  runPrimitive ctx (cmdWord 0x75#8 c0) [p0, t0] s

/-- `RECT.8TS` (43 R464). -/
def execRect8TS (ctx : DrawCtx) (c0 : BitVec 24) (p0 t0 : Word) (s : State) : Out :=
  runPrimitive ctx (cmdWord 0x76#8 c0) [p0, t0] s

/-- `RECT.8TSR` (43 R465). -/
def execRect8TSR (ctx : DrawCtx) (c0 : BitVec 24) (p0 t0 : Word) (s : State) : Out :=
  runPrimitive ctx (cmdWord 0x77#8 c0) [p0, t0] s

/-- `RECT.16` (43 R466). -/
def execRect16 (ctx : DrawCtx) (c0 : BitVec 24) (p0 : Word) (s : State) : Out :=
  runPrimitive ctx (cmdWord 0x78#8 c0) [p0] s

/-- `RECT.16R` (43 R467). -/
def execRect16R (ctx : DrawCtx) (c0 : BitVec 24) (p0 : Word) (s : State) : Out :=
  runPrimitive ctx (cmdWord 0x79#8 c0) [p0] s

/-- `RECT.16S` (43 R468). -/
def execRect16S (ctx : DrawCtx) (c0 : BitVec 24) (p0 : Word) (s : State) : Out :=
  runPrimitive ctx (cmdWord 0x7A#8 c0) [p0] s

/-- `RECT.16SR` (43 R469). -/
def execRect16SR (ctx : DrawCtx) (c0 : BitVec 24) (p0 : Word) (s : State) : Out :=
  runPrimitive ctx (cmdWord 0x7B#8 c0) [p0] s

/-- `RECT.16T` (43 R470). -/
def execRect16T (ctx : DrawCtx) (c0 : BitVec 24) (p0 t0 : Word) (s : State) : Out :=
  runPrimitive ctx (cmdWord 0x7C#8 c0) [p0, t0] s

/-- `RECT.16TR` (43 R471). -/
def execRect16TR (ctx : DrawCtx) (c0 : BitVec 24) (p0 t0 : Word) (s : State) : Out :=
  runPrimitive ctx (cmdWord 0x7D#8 c0) [p0, t0] s

/-- `RECT.16TS` (43 R472). -/
def execRect16TS (ctx : DrawCtx) (c0 : BitVec 24) (p0 t0 : Word) (s : State) : Out :=
  runPrimitive ctx (cmdWord 0x7E#8 c0) [p0, t0] s

/-- `RECT.16TSR` (43 R473). -/
def execRect16TSR (ctx : DrawCtx) (c0 : BitVec 24) (p0 t0 : Word) (s : State) : Out :=
  runPrimitive ctx (cmdWord 0x7F#8 c0) [p0, t0] s

end Sys2Proof.Machine
end

