-- ==== Sys2Proof/Machine/Dispatch.lean ====
section
/-! DEFINITION. One arm per operation. -/

namespace Sys2Proof.Machine

def exec (i : Instr) (s : State) : Host.Outcome State Fault Refusal :=
  match i with
  | .rd32Base n => Sys2Proof.Machine.execRd32Base n s
  | .wr32Base n v => Sys2Proof.Machine.execWr32Base n v s
  | .rd16Base n => Sys2Proof.Machine.execRd16Base n s
  | .wr16Base n h => Sys2Proof.Machine.execWr16Base n h s
  | .wr32Block n v => Sys2Proof.Machine.execWr32Block n v s
  | .rd32Block n => Sys2Proof.Machine.execRd32Block n s
  | .rd16Block n => Sys2Proof.Machine.execRd16Block n s
  | .wr16Block n h => Sys2Proof.Machine.execWr16Block n h s
  | .rd32Ctrl n => Sys2Proof.Machine.execRd32Ctrl n s
  | .wr32Ctrl n v => Sys2Proof.Machine.execWr32Ctrl n v s
  | .rd16Ctrl n => Sys2Proof.Machine.execRd16Ctrl n s
  | .wr16Ctrl n h => Sys2Proof.Machine.execWr16Ctrl n h s
  | .rd8Base n k => Sys2Proof.Machine.execRd8Base n k s
  | .wr8Base n k b => Sys2Proof.Machine.execWr8Base n k b s
  | .rd8Block n k => Sys2Proof.Machine.execRd8Block n k s
  | .wr8Block n k b => Sys2Proof.Machine.execWr8Block n k b s
  | .rd8Ctrl n k => Sys2Proof.Machine.execRd8Ctrl n k s
  | .wr8Ctrl n k b => Sys2Proof.Machine.execWr8Ctrl n k b s
  | .rd32Dpcr => Sys2Proof.Machine.execRd32Dpcr s
  | .wr32Dpcr v => Sys2Proof.Machine.execWr32Dpcr v s
  | .rd16Dpcr => Sys2Proof.Machine.execRd16Dpcr s
  | .wr16Dpcr h => Sys2Proof.Machine.execWr16Dpcr h s
  | .rd32Dicr => Sys2Proof.Machine.execRd32Dicr s
  | .wr32Dicr v => Sys2Proof.Machine.execWr32Dicr v s
  | .rd16DicrL => Sys2Proof.Machine.execRd16DicrL s
  | .rd16DicrH => Sys2Proof.Machine.execRd16DicrH s
  | .wr16DicrL h => Sys2Proof.Machine.execWr16DicrL h s
  | .wr16DicrH h => Sys2Proof.Machine.execWr16DicrH h s
  | .rd8Dicr0 => Sys2Proof.Machine.execRd8Dicr0 s
  | .rd8Dicr1 => Sys2Proof.Machine.execRd8Dicr1 s
  | .rd8Dicr2 => Sys2Proof.Machine.execRd8Dicr2 s
  | .rd8Dicr3 => Sys2Proof.Machine.execRd8Dicr3 s
  | .wr8Dicr0 b => Sys2Proof.Machine.execWr8Dicr0 b s
  | .wr8Dicr1 b => Sys2Proof.Machine.execWr8Dicr1 b s
  | .wr8Dicr2 b => Sys2Proof.Machine.execWr8Dicr2 b s
  | .wr8Dicr3 b => Sys2Proof.Machine.execWr8Dicr3 b s
  | .setIrq n => Sys2Proof.Machine.execSetIrq n s
  | .hasIrq => Sys2Proof.Machine.execHasIrq s
  | .irqEn n => Sys2Proof.Machine.execIrqEn n s
  | .doneCh n => Sys2Proof.Machine.execDoneCh n s
  | .triggerCh n => Sys2Proof.Machine.execTriggerCh n s
  | .beginPrim w0 ctx => Sys2Proof.Machine.execBeginPrim w0 ctx s
  | .addWord w => Sys2Proof.Machine.execAddWord w s
  | .ready => Sys2Proof.Machine.execReady s
  | .draw => Sys2Proof.Machine.execDraw s
  | .polyF3 ctx c0 p0 p1 p2 => Sys2Proof.Machine.execPolyF3 ctx c0 p0 p1 p2 s
  | .polyF3R ctx c0 p0 p1 p2 => Sys2Proof.Machine.execPolyF3R ctx c0 p0 p1 p2 s
  | .polyF3S ctx c0 p0 p1 p2 => Sys2Proof.Machine.execPolyF3S ctx c0 p0 p1 p2 s
  | .polyF3SR ctx c0 p0 p1 p2 => Sys2Proof.Machine.execPolyF3SR ctx c0 p0 p1 p2 s
  | .polyF3T ctx c0 p0 t0 p1 t1 p2 t2 => Sys2Proof.Machine.execPolyF3T ctx c0 p0 t0 p1 t1 p2 t2 s
  | .polyF3TR ctx c0 p0 t0 p1 t1 p2 t2 => Sys2Proof.Machine.execPolyF3TR ctx c0 p0 t0 p1 t1 p2 t2 s
  | .polyF3TS ctx c0 p0 t0 p1 t1 p2 t2 => Sys2Proof.Machine.execPolyF3TS ctx c0 p0 t0 p1 t1 p2 t2 s
  | .polyF3TSR ctx c0 p0 t0 p1 t1 p2 t2 => Sys2Proof.Machine.execPolyF3TSR ctx c0 p0 t0 p1 t1 p2 t2 s
  | .polyF4 ctx c0 p0 p1 p2 p3 => Sys2Proof.Machine.execPolyF4 ctx c0 p0 p1 p2 p3 s
  | .polyF4R ctx c0 p0 p1 p2 p3 => Sys2Proof.Machine.execPolyF4R ctx c0 p0 p1 p2 p3 s
  | .polyF4S ctx c0 p0 p1 p2 p3 => Sys2Proof.Machine.execPolyF4S ctx c0 p0 p1 p2 p3 s
  | .polyF4SR ctx c0 p0 p1 p2 p3 => Sys2Proof.Machine.execPolyF4SR ctx c0 p0 p1 p2 p3 s
  | .polyF4T ctx c0 p0 t0 p1 t1 p2 t2 p3 t3 => Sys2Proof.Machine.execPolyF4T ctx c0 p0 t0 p1 t1 p2 t2 p3 t3 s
  | .polyF4TR ctx c0 p0 t0 p1 t1 p2 t2 p3 t3 => Sys2Proof.Machine.execPolyF4TR ctx c0 p0 t0 p1 t1 p2 t2 p3 t3 s
  | .polyF4TS ctx c0 p0 t0 p1 t1 p2 t2 p3 t3 => Sys2Proof.Machine.execPolyF4TS ctx c0 p0 t0 p1 t1 p2 t2 p3 t3 s
  | .polyF4TSR ctx c0 p0 t0 p1 t1 p2 t2 p3 t3 => Sys2Proof.Machine.execPolyF4TSR ctx c0 p0 t0 p1 t1 p2 t2 p3 t3 s
  | .polyG3 ctx c0 p0 c1 p1 c2 p2 => Sys2Proof.Machine.execPolyG3 ctx c0 p0 c1 p1 c2 p2 s
  | .polyG3R ctx c0 p0 c1 p1 c2 p2 => Sys2Proof.Machine.execPolyG3R ctx c0 p0 c1 p1 c2 p2 s
  | .polyG3S ctx c0 p0 c1 p1 c2 p2 => Sys2Proof.Machine.execPolyG3S ctx c0 p0 c1 p1 c2 p2 s
  | .polyG3SR ctx c0 p0 c1 p1 c2 p2 => Sys2Proof.Machine.execPolyG3SR ctx c0 p0 c1 p1 c2 p2 s
  | .polyG3T ctx c0 p0 t0 c1 p1 t1 c2 p2 t2 => Sys2Proof.Machine.execPolyG3T ctx c0 p0 t0 c1 p1 t1 c2 p2 t2 s
  | .polyG3TR ctx c0 p0 t0 c1 p1 t1 c2 p2 t2 => Sys2Proof.Machine.execPolyG3TR ctx c0 p0 t0 c1 p1 t1 c2 p2 t2 s
  | .polyG3TS ctx c0 p0 t0 c1 p1 t1 c2 p2 t2 => Sys2Proof.Machine.execPolyG3TS ctx c0 p0 t0 c1 p1 t1 c2 p2 t2 s
  | .polyG3TSR ctx c0 p0 t0 c1 p1 t1 c2 p2 t2 => Sys2Proof.Machine.execPolyG3TSR ctx c0 p0 t0 c1 p1 t1 c2 p2 t2 s
  | .polyG4 ctx c0 p0 c1 p1 c2 p2 c3 p3 => Sys2Proof.Machine.execPolyG4 ctx c0 p0 c1 p1 c2 p2 c3 p3 s
  | .polyG4R ctx c0 p0 c1 p1 c2 p2 c3 p3 => Sys2Proof.Machine.execPolyG4R ctx c0 p0 c1 p1 c2 p2 c3 p3 s
  | .polyG4S ctx c0 p0 c1 p1 c2 p2 c3 p3 => Sys2Proof.Machine.execPolyG4S ctx c0 p0 c1 p1 c2 p2 c3 p3 s
  | .polyG4SR ctx c0 p0 c1 p1 c2 p2 c3 p3 => Sys2Proof.Machine.execPolyG4SR ctx c0 p0 c1 p1 c2 p2 c3 p3 s
  | .polyG4T ctx c0 p0 t0 c1 p1 t1 c2 p2 t2 c3 p3 t3 => Sys2Proof.Machine.execPolyG4T ctx c0 p0 t0 c1 p1 t1 c2 p2 t2 c3 p3 t3 s
  | .polyG4TR ctx c0 p0 t0 c1 p1 t1 c2 p2 t2 c3 p3 t3 => Sys2Proof.Machine.execPolyG4TR ctx c0 p0 t0 c1 p1 t1 c2 p2 t2 c3 p3 t3 s
  | .polyG4TS ctx c0 p0 t0 c1 p1 t1 c2 p2 t2 c3 p3 t3 => Sys2Proof.Machine.execPolyG4TS ctx c0 p0 t0 c1 p1 t1 c2 p2 t2 c3 p3 t3 s
  | .polyG4TSR ctx c0 p0 t0 c1 p1 t1 c2 p2 t2 c3 p3 t3 => Sys2Proof.Machine.execPolyG4TSR ctx c0 p0 t0 c1 p1 t1 c2 p2 t2 c3 p3 t3 s
  | .rectV ctx c0 p0 dim => Sys2Proof.Machine.execRectV ctx c0 p0 dim s
  | .rectVR ctx c0 p0 dim => Sys2Proof.Machine.execRectVR ctx c0 p0 dim s
  | .rectVS ctx c0 p0 dim => Sys2Proof.Machine.execRectVS ctx c0 p0 dim s
  | .rectVSR ctx c0 p0 dim => Sys2Proof.Machine.execRectVSR ctx c0 p0 dim s
  | .rectVT ctx c0 p0 t0 dim => Sys2Proof.Machine.execRectVT ctx c0 p0 t0 dim s
  | .rectVTR ctx c0 p0 t0 dim => Sys2Proof.Machine.execRectVTR ctx c0 p0 t0 dim s
  | .rectVTS ctx c0 p0 t0 dim => Sys2Proof.Machine.execRectVTS ctx c0 p0 t0 dim s
  | .rectVTSR ctx c0 p0 t0 dim => Sys2Proof.Machine.execRectVTSR ctx c0 p0 t0 dim s
  | .rect1 ctx c0 p0 => Sys2Proof.Machine.execRect1 ctx c0 p0 s
  | .rect1R ctx c0 p0 => Sys2Proof.Machine.execRect1R ctx c0 p0 s
  | .rect1S ctx c0 p0 => Sys2Proof.Machine.execRect1S ctx c0 p0 s
  | .rect1SR ctx c0 p0 => Sys2Proof.Machine.execRect1SR ctx c0 p0 s
  | .rect1T ctx c0 p0 t0 => Sys2Proof.Machine.execRect1T ctx c0 p0 t0 s
  | .rect1TR ctx c0 p0 t0 => Sys2Proof.Machine.execRect1TR ctx c0 p0 t0 s
  | .rect1TS ctx c0 p0 t0 => Sys2Proof.Machine.execRect1TS ctx c0 p0 t0 s
  | .rect1TSR ctx c0 p0 t0 => Sys2Proof.Machine.execRect1TSR ctx c0 p0 t0 s
  | .rect8 ctx c0 p0 => Sys2Proof.Machine.execRect8 ctx c0 p0 s
  | .rect8R ctx c0 p0 => Sys2Proof.Machine.execRect8R ctx c0 p0 s
  | .rect8S ctx c0 p0 => Sys2Proof.Machine.execRect8S ctx c0 p0 s
  | .rect8SR ctx c0 p0 => Sys2Proof.Machine.execRect8SR ctx c0 p0 s
  | .rect8T ctx c0 p0 t0 => Sys2Proof.Machine.execRect8T ctx c0 p0 t0 s
  | .rect8TR ctx c0 p0 t0 => Sys2Proof.Machine.execRect8TR ctx c0 p0 t0 s
  | .rect8TS ctx c0 p0 t0 => Sys2Proof.Machine.execRect8TS ctx c0 p0 t0 s
  | .rect8TSR ctx c0 p0 t0 => Sys2Proof.Machine.execRect8TSR ctx c0 p0 t0 s
  | .rect16 ctx c0 p0 => Sys2Proof.Machine.execRect16 ctx c0 p0 s
  | .rect16R ctx c0 p0 => Sys2Proof.Machine.execRect16R ctx c0 p0 s
  | .rect16S ctx c0 p0 => Sys2Proof.Machine.execRect16S ctx c0 p0 s
  | .rect16SR ctx c0 p0 => Sys2Proof.Machine.execRect16SR ctx c0 p0 s
  | .rect16T ctx c0 p0 t0 => Sys2Proof.Machine.execRect16T ctx c0 p0 t0 s
  | .rect16TR ctx c0 p0 t0 => Sys2Proof.Machine.execRect16TR ctx c0 p0 t0 s
  | .rect16TS ctx c0 p0 t0 => Sys2Proof.Machine.execRect16TS ctx c0 p0 t0 s
  | .rect16TSR ctx c0 p0 t0 => Sys2Proof.Machine.execRect16TSR ctx c0 p0 t0 s
  | .xchg d => Sys2Proof.Machine.execXchg d s
  | .poll snap => Sys2Proof.Machine.execPoll snap s
  | .connect c => Sys2Proof.Machine.execConnect c s
  | .padNPoll b0 data => Sys2Proof.Machine.execPadNPoll b0 data s
  | .padNCfg data => Sys2Proof.Machine.execPadNCfg data s
  | .padC42 d1 d2 d3 d4 d5 d6 d7 => Sys2Proof.Machine.execPadC42 d1 d2 d3 d4 d5 d6 d7 s
  | .padC43 d1 d2 d3 d4 d5 d6 d7 => Sys2Proof.Machine.execPadC43 d1 d2 d3 d4 d5 d6 d7 s
  | .padC44 d1 d2 d3 d4 d5 d6 d7 => Sys2Proof.Machine.execPadC44 d1 d2 d3 d4 d5 d6 d7 s
  | .padC45 d1 d2 d3 d4 d5 d6 d7 => Sys2Proof.Machine.execPadC45 d1 d2 d3 d4 d5 d6 d7 s
  | .padC46 d1 d2 d3 d4 d5 d6 d7 => Sys2Proof.Machine.execPadC46 d1 d2 d3 d4 d5 d6 d7 s
  | .padC47 d1 d2 d3 d4 d5 d6 d7 => Sys2Proof.Machine.execPadC47 d1 d2 d3 d4 d5 d6 d7 s
  | .padC4C d1 d2 d3 d4 d5 d6 d7 => Sys2Proof.Machine.execPadC4C d1 d2 d3 d4 d5 d6 d7 s
  | .padC4D d1 d2 d3 d4 d5 d6 d7 => Sys2Proof.Machine.execPadC4D d1 d2 d3 d4 d5 d6 d7 s

end Sys2Proof.Machine
end

