-- ==== Sys2Proof/Machine/Step.lean ====
section
/-! DEFINITION. One step: the next input of an outside agent (spec/00_scope.md R10, spec/20_memory.md R87; Log 1). -/

namespace Sys2Proof.Machine

/-- A request that is no operation of the table: an address that selects no register ends the access with `UnhandledAddress`
(20_memory.md R72, R73); anything else is outside the contract. -/
def rejected (e : DecodeError) (s : State) : Host.Outcome State Fault Refusal :=
  match e with
  | .unhandledAddress addr => .next (s.raise (.unhandledAddress addr))
  | .notAPrimitive w0 => .refused (.notAPrimitive w0)
  | .wrongWordCount _ => .refused .malformedRequest
  | .emptyStream => .refused .malformedRequest
  | .notADialogue => .refused .malformedRequest

/-- An operation of an agent. -/
def performRequest (r : Request) (s : State) : Host.Outcome State Fault Refusal :=
  match decode r with
  | .ok i => exec i s
  | .error e => rejected e s

/-- The platform binds the transfer engine (70 R383; Log 6). -/
def bindEngine (agent : Nat) (s : State) : State := { s with dma := { s.dma with engine := some agent } }

/-- One step: the next input is taken from the list and performed; with none, the passive block does nothing (R10; Log 2). -/
def step (s : State) : Host.Outcome State Fault Refusal :=
  match s.pending with
  | [] => .next s
  | .operation r :: rest => performRequest r { s with pending := rest }
  | .bindEngine agent :: rest => .next (bindEngine agent { s with pending := rest })

/-- The state whose next step performs the operation a table word stands for (Log 17). -/
def State.withFetchWord (s : State) (nbits w : Nat) : State :=
  { s with pending := .operation (tableRequest nbits w) :: s.pending }

end Sys2Proof.Machine
end

