-- ==== Sys2Proof/Safety.lean ====
section
/-! DEFINITION. The terms the statements use: frames (what an operation leaves unchanged), the spec's layouts written a second time
apart from the model's operations, and the invariant of the machine. -/

namespace Sys2Proof.Machine

/-! ## Classes of operations -/

/-- The three units (spec/10_state.md R66). -/
inductive BlockUnit where
  | dma
  | gpa
  | pad
deriving DecidableEq, Repr

/-- The unit an operation is performed on (spec/30_encoding.md R136 to R139). -/
def unitOf (i : Instr) : BlockUnit :=
  match encode i with
  | .gpaBegin _ _ => .gpa
  | .gpaAdd _ => .gpa
  | .gpaIsReady => .gpa
  | .gpaDraw => .gpa
  | .primitive _ _ => .gpa
  | .exchange _ => .pad
  | .readInput _ => .pad
  | .setConnected _ => .pad
  | .dialogue _ _ => .pad
  | .busRead8 _ => .dma
  | .busRead16 _ => .dma
  | .busRead32 _ => .dma
  | .busWrite8 _ _ => .dma
  | .busWrite16 _ _ => .dma
  | .busWrite32 _ _ => .dma
  | .callSetIrq _ => .dma
  | .callHasIrq => .dma
  | .callIsIrqEnabled _ => .dma
  | .callDone _ => .dma
  | .traceTrigger _ => .dma

/-- The reads of DMA that select a register or a derived signal (spec/20_memory.md R83). -/
def isDmaRead (i : Instr) : Bool :=
  match i with
  | .rd32Base _ => true
  | .rd16Base _ => true
  | .rd32Block _ => true
  | .rd16Block _ => true
  | .rd32Ctrl _ => true
  | .rd16Ctrl _ => true
  | .rd32Dpcr => true
  | .rd16Dpcr => true
  | .rd32Dicr => true
  | .rd16DicrL => true
  | .rd16DicrH => true
  | .rd8Dicr0 => true
  | .rd8Dicr1 => true
  | .rd8Dicr2 => true
  | .rd8Dicr3 => true
  | .hasIrq => true
  | .irqEn _ => true
  | _ => false

/-- The bus writes that select a register and pass the check of a channel-control write. -/
def isAcceptedBusWrite (i : Instr) : Bool :=
  match i with
  | .wr32Base _ _ => true
  | .wr16Base _ _ => true
  | .wr32Block _ _ => true
  | .wr16Block _ _ => true
  | .wr32Ctrl _ v => v.extractLsb' 9 2 != 3
  | .wr16Ctrl _ h => h.extractLsb' 9 2 != 3
  | .wr32Dpcr _ => true
  | .wr16Dpcr _ => true
  | .wr32Dicr _ => true
  | .wr16DicrL _ => true
  | .wr16DicrH _ => true
  | .wr8Dicr0 _ => true
  | .wr8Dicr1 _ => true
  | .wr8Dicr2 _ => true
  | .wr8Dicr3 _ => true
  | _ => false

/-! ## Frames -/

/-- The inputs still to come and the three output records are unchanged. -/
def sameRecords (s t : State) : Prop :=
  t.pending = s.pending ∧ t.toRenderer = s.toRenderer ∧ t.engineCalls = s.engineCalls ∧ t.log = s.log

/-- Every channel but `n` is unchanged. -/
def sameOtherChannels (n : Chan) (s t : State) : Prop := ∀ m, m ≠ n → t.dma.chan m = s.dma.chan m

/-- The global DMA fields other than the flags are unchanged. -/
def sameGlobalsButFlags (s t : State) : Prop :=
  t.dma.dpcr = s.dma.dpcr ∧ t.dma.cic = s.dma.cic ∧ t.dma.busError = s.dma.busError ∧ t.dma.mask = s.dma.mask ∧
    t.dma.masterEnable = s.dma.masterEnable ∧ t.dma.engine = s.dma.engine ∧ t.dma.inCallback = s.dma.inCallback

/-- The operation completes with no value, channel `n` becomes `c`, and nothing else changes. -/
def setsChannel (i : Instr) (n : Chan) (c : Channel) (s : State) : Prop :=
  ∃ t, exec i s = .next t ∧ t.dma.chan n = c ∧ sameOtherChannels n s t ∧ sameGlobalsButFlags s t ∧
    t.dma.flags = s.dma.flags ∧ t.dma.dispatching = s.dma.dispatching ∧ t.result = .completed ∧ t.gpa = s.gpa ∧ t.pad = s.pad ∧
    sameRecords s t

/-- The operation hands back a result and changes nothing else. -/
def returns (i : Instr) (r : Result) (s : State) : Prop := exec i s = .next { s with result := r }

/-- The operation ends with an error, the block exactly as before (spec/60_exceptions.md R337, R348). -/
def raises (i : Instr) (e : ErrorKind) (s : State) : Prop := exec i s = .next { s with result := .error e }

/-- Nothing but the assembler, the triangles emitted and the result may differ. -/
def onlyAssembler (s t : State) : Prop :=
  t.dma = s.dma ∧ t.pad = s.pad ∧ t.pending = s.pending ∧ t.engineCalls = s.engineCalls ∧ t.log = s.log

/-- Nothing but the pad, the log and the result may differ. -/
def onlyPad (s t : State) : Prop :=
  t.dma = s.dma ∧ t.gpa = s.gpa ∧ t.pending = s.pending ∧ t.toRenderer = s.toRenderer ∧ t.engineCalls = s.engineCalls

/-! ## The address map (spec/20_memory.md R71, R79 to R82) -/

/-- The address at offset `off` of channel `n`. -/
def regAddr (n : Chan) (off : Word) : Word := 0x1F801080#32 + 0x10#32 * BitVec.ofNat 32 n.val + off

/-- Width and address of a bus access. -/
def busAccess (r : Request) : Option (Nat × Word) :=
  match r with
  | .busRead8 addr => some (8, addr)
  | .busRead16 addr => some (16, addr)
  | .busRead32 addr => some (32, addr)
  | .busWrite8 addr _ => some (8, addr)
  | .busWrite16 addr _ => some (16, addr)
  | .busWrite32 addr _ => some (32, addr)
  | _ => none

/-- The addresses of the three registers of the seven channels. -/
def channelAddrs : List Word :=
  (List.finRange 7).flatMap (fun n => [regAddr n 0x0, regAddr n 0x4, regAddr n 0x8])

/-- The addresses at which an access of that width selects a register. -/
def acceptedAddrs (width : Nat) : List Word :=
  if width = 32 then channelAddrs ++ [0x1F8010F0, 0x1F8010F4]
  else if width = 16 then channelAddrs ++ [0x1F8010F0, 0x1F8010F4, 0x1F8010F6]
  else [0x1F8010F4, 0x1F8010F5, 0x1F8010F6, 0x1F8010F7]

/-! ## Channel control -/

/-- The channel after the nine stores of a channel-control write (spec/40_dma_channel_registers.md R152 step 2). -/
def writtenChannel (v : Word) (c : Channel) : Channel :=
  { direction := v.getLsbD 0, step := v.getLsbD 1, chop := v.getLsbD 8,
    sync := if v.extractLsb' 9 2 = 0 then .manual else if v.extractLsb' 9 2 = 1 then .request else .linkedList,
    chopDmaWin := v.extractLsb' 16 3, chopCpuWin := v.extractLsb' 20 3, enabled := v.getLsbD 24, trigger := v.getLsbD 28,
    readWrite := v.extractLsb' 29 2, base := c.base, blockSize := c.blockSize, blockCount := c.blockCount }

/-- Whether a written channel-control value makes its channel active (spec/10_state.md R33). -/
def activates (v : Word) : Prop := v.getLsbD 24 = true ∧ (v.extractLsb' 9 2 = 0 → v.getLsbD 28 = true)

/-- A channel is active (spec/10_state.md R33). -/
def Channel.active (c : Channel) : Prop := c.enabled = true ∧ (c.sync = .manual → c.trigger = true)

/-- What the engine may read in its invocation (spec/41_dma_global_irq_trigger.md R200): the port, channel `n` as `c` and active, the other
channels and the global registers as they stood before the operation; every read operation of DMA then answers on that state. -/
def engineSees (n : Chan) (c : Channel) (s : State) (k : EngineCall) : Prop :=
  k.port = n ∧ k.dma.chan n = c ∧ c.active ∧ (∀ m, m ≠ n → k.dma.chan m = s.dma.chan m) ∧ k.dma.inCallback = true ∧
    k.dma.dpcr = s.dma.dpcr ∧ k.dma.cic = s.dma.cic ∧ k.dma.busError = s.dma.busError ∧ k.dma.mask = s.dma.mask ∧
    k.dma.masterEnable = s.dma.masterEnable ∧ k.dma.flags = s.dma.flags ∧ k.dma.engine = s.dma.engine ∧
    ∀ i : Instr, isDmaRead i = true → i.wellFormed = true →
      ∃ r, exec i { s with dma := k.dma } = .next { s with dma := k.dma, result := r }

/-- What a dispatch leaves (spec/41_dma_global_irq_trigger.md R196 to R200): one more invocation recorded, with what its engine may read;
channel `n` as `c` with `enabled` and `trigger` cleared, its flag set if masked in, no write dispatching; nothing else changed. -/
def dispatched (n : Chan) (c : Channel) (s t : State) : Prop :=
  t.dma.chan n = { c with enabled := false, trigger := false } ∧ sameOtherChannels n s t ∧ sameGlobalsButFlags s t ∧
    t.dma.flags = (if s.dma.mask.getLsbD n.val then s.dma.flags ||| 1#7 <<< n.val else s.dma.flags) ∧ t.dma.dispatching = none ∧
    (∃ k, t.engineCalls = s.engineCalls ++ [k] ∧ engineSees n c s k) ∧ t.result = .completed ∧ t.gpa = s.gpa ∧ t.pad = s.pad ∧
    t.pending = s.pending ∧ t.toRenderer = s.toRenderer ∧ t.log = s.log

/-! ## Primitives -/

/-- The two's-complement value of an 11-bit coordinate (spec/30_encoding.md R126). -/
def coordinate11 (f : BitVec 11) : Int := if f.getLsbD 10 then (f.toNat : Int) - 2048 else (f.toNat : Int)

/-- A vertex record (spec/42_gpu_polygon.md R225) from its position word, colour, texture coordinates and context. -/
def vertexRecord (pos : Word) (color : BitVec 24) (u v clut page : Half) (texMode : TexMode) (dither : Bool)
    (transMode : TransMode) : VertexInfo :=
  { x := pos.extractLsb' 0 16, y := pos.extractLsb' 16 16, r := color.extractLsb' 0 8, g := color.extractLsb' 8 8,
    b := color.extractLsb' 16 8, u := u, v := v, clut := clut, page := page, texMode := texMode, dither := dither,
    transMode := transMode }

/-- A vertex record of an untextured polygon (R222, R223). -/
def plainVertex (pos : Word) (color : BitVec 24) (dither : Bool) (transMode : TransMode) : VertexInfo :=
  vertexRecord pos color 0 0 0 0 .untextured dither transMode

/-- A vertex record of a textured polygon: position, UV word, colour, CLUT word and page word (R222 to R225). -/
def texturedVertex (pos uv : Word) (color : BitVec 24) (clutWord pageWord : Word) (dither : Bool) (transMode : TransMode) :
    VertexInfo :=
  vertexRecord pos color (0#8 ++ uv.extractLsb' 0 8) (0#8 ++ uv.extractLsb' 8 8) (clutWord.extractLsb' 16 16)
    (pageWord.extractLsb' 16 16) (.mode (pageWord.extractLsb' 23 2)) dither transMode

/-- The blend mode a textured semi-transparent polygon takes from its page word, `page[6:5]` (R224). -/
def pageBlendOf (pageWord : Word) : TransMode := .blend (pageWord.extractLsb' 21 2)

/-- The triangle of three records. -/
def tri (a b c : VertexInfo) : Triangle := { a := a, b := b, c := c }

/-- The triangles of three vertices, or of four (R226; spec/43_gpu_rectangle.md R251). -/
def strip (vs : List VertexInfo) : List Triangle :=
  match vs with
  | [a, b, c] => [tri a b c]
  | [a, b, c, d] => [tri a b c, tri b c d]
  | _ => []

/-- Index of the colour word of vertex `i` (spec/30_encoding.md R120). -/
def colorIndex (gouraud textured : Bool) (i : Nat) : Nat := if gouraud then (if textured then 3 * i else 2 * i) else 0

/-- Index of the position word of vertex `i` (R120). -/
def posIndex (gouraud textured : Bool) (i : Nat) : Nat :=
  if gouraud then (if textured then 3 * i + 1 else 2 * i + 1) else if textured then 1 + 2 * i else 1 + i

/-- Index of the UV word of vertex `i` (R120). -/
def uvIndex (gouraud : Bool) (i : Nat) : Nat := if gouraud then 3 * i + 2 else 2 + 2 * i

/-- The record of vertex `i` of a polygon, read from the words of its stream (spec/42_gpu_polygon.md R218 to R225). -/
def streamVertex (p : Polygon) (buf : List Word) (i : Nat) : VertexInfo :=
  let pos := buf.getD (posIndex p.gouraud p.textured i) 0
  let color :=
    if p.textured ∧ p.raw then 0x808080 else (buf.getD (colorIndex p.gouraud p.textured i) 0).extractLsb' 0 24
  let dither := p.ctx.ditherEnable && !(!p.gouraud && p.textured && p.raw)
  let pageWord := buf.getD (uvIndex p.gouraud 1) 0
  if p.textured then
    texturedVertex pos (buf.getD (uvIndex p.gouraud i) 0) color (buf.getD (uvIndex p.gouraud 0) 0) pageWord dither
      (if p.semi then pageBlendOf pageWord else .solid)
  else plainVertex pos color dither (if p.semi then .blend p.ctx.globalBlend else .solid)

/-- The shape a polygon gets at its construction (R210, R212). -/
def Polygon.shaped (p : Polygon) : Prop :=
  p.vc = (if p.quad then 4 else 3) ∧ p.expected = p.vc + (if p.textured then p.vc else 0) + (if p.gouraud then p.vc else 1)

/-- The shape a rectangle gets at its construction (spec/43_gpu_rectangle.md R240). -/
def Rectangle.shaped (r : Rectangle) : Prop :=
  r.expected = 2 + (if r.textured then 1 else 0) + (if r.size = .variable then 1 else 0)

/-- A vertex record of a rectangle corner (R245 to R250), at offset `(dx, dy)` from the base corner. -/
def cornerRecord (ctx : DrawCtx) (pos : Word) (color : BitVec 24) (uv : Option Word) (semi : Bool) (dx dy : Half) : VertexInfo :=
  { x := BitVec.ofInt 16 (coordinate11 (pos.extractLsb' 0 11)) + dx, y := BitVec.ofInt 16 (coordinate11 (pos.extractLsb' 16 11)) + dy,
    r := color.extractLsb' 0 8, g := color.extractLsb' 8 8, b := color.extractLsb' 16 8,
    u := match uv with
      | some w => (0#8 ++ w.extractLsb' 0 8) + dx
      | none => 0,
    v := match uv with
      | some w => (0#8 ++ w.extractLsb' 8 8) + dy
      | none => 0,
    clut := match uv with
      | some w => w.extractLsb' 16 16
      | none => 0,
    page := ctx.page,
    texMode := match uv with
      | some _ => .mode ctx.depth
      | none => .untextured,
    dither := false, transMode := if semi then .blend ctx.globalBlend else .solid }

/-- The two triangles of a rectangle (R246, R247, R251). -/
def rectangleTriangles (ctx : DrawCtx) (pos : Word) (color : BitVec 24) (uv : Option Word) (semi : Bool) (w h : Half) : List Triangle :=
  let v := cornerRecord ctx pos color uv semi
  strip [v 0 0, v w 0, v 0 h, v w h]

/-- The colour of a textured raw rectangle under either value of the open parameter (R249). -/
def rawRectangleColor (c0 : BitVec 24) : BitVec 24 := if Config.rectRawGray then 0x808080 else c0

/-- A whole polygon stream runs: the flags of its first word, the words in the buffer, as many as expected, the arrays decoded; the
triangles emitted in order; nothing outside the assembler different. -/
def drawsPolygon (i : Instr) (s : State) (gouraud quad textured semi raw : Bool) (ctx : PolyCtx) (buf : List Word)
    (ts : List Triangle) : Prop :=
  ∃ t a, exec i s = .next t ∧
    t.gpa = {
      prim := .polygon
        { gouraud := gouraud, quad := quad, vc := if quad then 4 else 3, textured := textured, semi := semi, raw := raw,
          expected := buf.length, ctx := ctx, decoded := some a },
      buf := buf } ∧
    t.toRenderer = s.toRenderer ++ ts ∧ t.result = .completed ∧ onlyAssembler s t

/-- A whole rectangle stream runs, as `drawsPolygon`. -/
def drawsRectangle (i : Instr) (s : State) (size : SizeClass) (textured semi raw : Bool) (ctx : DrawCtx) (buf : List Word)
    (ts : List Triangle) : Prop :=
  ∃ t, exec i s = .next t ∧
    t.gpa = {
      prim := .rectangle { size := size, textured := textured, semi := semi, raw := raw, expected := buf.length, ctx := ctx },
      buf := buf } ∧
    t.toRenderer = s.toRenderer ++ ts ∧ t.result = .completed ∧ onlyAssembler s t

/-! ## Pad -/

/-- The mode after a deferred switch is applied at the end of a dialogue (spec/44_pad_protocol.md R268). -/
def switchedMode (p : Pad) : PadMode :=
  match p.pendingSwitch with
  | .none => p.mode
  | .toConfig => .config
  | .toNormal => .normal

/-- The pad after a step that goes on (R266). -/
def goesOn (p : Pad) : Pad := { p with seq := p.seq + 1, ack := true }

/-- The pad after a step that ends the dialogue in order (R267, R268). -/
def ends (p : Pad) : Pad := { p with seq := 0, ack := false, mode := switchedMode p, pendingSwitch := .none }

/-- The pad after a data step of a Config-mode dialogue: step 7 ends it (R297). -/
def nextPad (p : Pad) : Pad := if p.seq = 7 then ends p else goesOn p

/-- The pad after a dialogue with a command, its registers apart. -/
def afterDialogue (cmd : Byte) (mode : PadMode) (p : Pad) : Pad :=
  { p with cmd := cmd, seq := 0, ack := false, mode := mode, pendingSwitch := .none }

/-- The replies of a dialogue: acknowledge 1 on every byte but the last (R264). -/
def repliesOf (bytes : List Byte) : List PadReply :=
  match bytes with
  | [] => []
  | [r] => [{ resp := r, ack := false }]
  | r :: rest => { resp := r, ack := true } :: repliesOf rest

/-- A dialogue that runs to its end: these replies, this pad, nothing else different. -/
def converses (i : Instr) (s : State) (replies : List PadReply) (pad : Pad) : Prop :=
  ∃ t, exec i s = .next t ∧ t.result = .dialogue replies none ∧ t.pad = pad ∧ t.log = s.log ∧ onlyPad s t

/-- One exchange that answers: this reply, this pad, nothing else different. -/
def answers (d : Byte) (s : State) (resp : Byte) (ack : Bool) (pad : Pad) : Prop :=
  ∃ t, exec (.xchg d) s = .next t ∧ t.result = .pad { resp := resp, ack := ack } ∧ t.pad = pad ∧ t.log = s.log ∧ onlyPad s t

/-- A connected pad in that mode, between two dialogues. -/
def atRest (mode : PadMode) (p : Pad) : Prop :=
  p.connected = true ∧ p.mode = mode ∧ p.seq = 0 ∧ p.pendingSwitch = .none

/-- The command codes of Config mode (spec/30_encoding.md R133). -/
def configCommands : List Byte := [0x42, 0x43, 0x44, 0x45, 0x46, 0x47, 0x4C, 0x4D]

/-- A byte that is the truncation of `(v + 1) * 0.5 * 255` for `v = num / den` (spec/45_pad_input.md R318). -/
def isAxisByte (a : AxisValue) (b : Byte) : Prop :=
  2 * (b.toNat : Int) * a.den ≤ 255 * (a.num + a.den) ∧ 255 * (a.num + a.den) < 2 * ((b.toNat : Int) + 1) * a.den

/-- The value of axis `i` of a snapshot. -/
def axisValue (snap : Snapshot) (i : Nat) (a : AxisValue) : Prop := (snap.axes.lookup i).or snap.restAxes = some a

/-- The snapshot gives every axis the profile reads as a number in [-1, 1] (R318, R323). -/
def coversAxes (prof : Profile) (snap : Snapshot) : Prop :=
  ∀ i ∈ [prof.iRX, prof.iRY, prof.iLX, prof.iLY], ∃ a, axisValue snap i a ∧ a.inRange = true

/-! ## The invariant -/

/-- Block size and count lie in 1..0x10000 (spec/10_state.md R31, R32), and the channel is inactive (R33; between two operations,
spec/41_dma_global_irq_trigger.md R195). -/
def Channel.inv (c : Channel) : Prop :=
  1 ≤ c.blockSize ∧ c.blockSize ≤ 0x10000 ∧ 1 ≤ c.blockCount ∧ c.blockCount ≤ 0x10000 ∧ ¬c.active

/-- The expected count is that of the flags, the buffer never exceeds it (R46, R48), and decoded arrays are those of a full buffer (R50). -/
def Gpa.inv (g : Gpa) : Prop :=
  match g.prim with
  | .none => g.buf = []
  | .polygon p =>
    p.shaped ∧ g.buf.length ≤ p.expected ∧ ∀ a, p.decoded = some a → g.buf.length = p.expected ∧ a = setupArrays p g.buf
  | .rectangle r => r.shaped ∧ g.buf.length ≤ r.expected

/-- The step counter stays in 0..7 (R56); a switch is pending only after step 2 of a dialogue with command 0x43, towards the other
mode (R59); past step 2 of a Config-mode dialogue the command is a defined one (spec/44_pad_protocol.md R282). -/
def Pad.inv (p : Pad) : Prop :=
  p.seq ≤ 7 ∧ (p.seq ≤ 2 → p.pendingSwitch = .none) ∧ (p.pendingSwitch = .toConfig → p.mode = .normal ∧ p.cmd = 0x43) ∧
    (p.pendingSwitch = .toNormal → p.mode = .config ∧ p.cmd = 0x43) ∧
    (p.mode = .config → 3 ≤ p.seq → p.cmd ∈ configCommands)

/-- The invariant: every channel's, no transfer engine invocation in progress between operations (R43) and no write dispatching one
(spec/41_dma_global_irq_trigger.md R195, R196), the assembler's, the pad's. -/
def State.inv (s : State) : Prop :=
  (∀ n, (s.dma.chan n).inv) ∧ s.dma.inCallback = false ∧ s.dma.dispatching = none ∧ s.gpa.inv ∧ s.pad.inv

end Sys2Proof.Machine
end

