-- ==== Sys2Proof/Certificates/Slice0/Obligations.lean ====
section
/-! DEFINITION. The statements for the provers. "Log n" is notes/assumptions/n.md; rules R<n> are those of spec/. -/

open Sys2Proof Sys2Proof.Machine

/-- O1. RD32.BASE and RD16.BASE return the 24 stored bits, widened with zeros or truncated, and change nothing. -/
def Obligations.BaseAddressReads : Prop :=
  ∀ (n : Chan) (s : State),
    decode (.busRead32 (regAddr n 0x0)) = .ok (.rd32Base n) ∧
      returns (.rd32Base n) (.word (0#8 ++ (s.dma.chan n).base)) s ∧
      decode (.busRead16 (regAddr n 0x0)) = .ok (.rd16Base n) ∧
      returns (.rd16Base n) (.half ((s.dma.chan n).base.extractLsb' 0 16)) s ∧
      decode (.busRead16 (regAddr n 0x2)) = .error (.unhandledAddress (regAddr n 0x2))

/-- O2. WR32.BASE stores the low 24 bits, WR16.BASE the widened half; nothing else changes and no transfer is dispatched. -/
def Obligations.BaseAddressWrites : Prop :=
  ∀ (n : Chan) (v : Word) (h : Half) (s : State), s.dma.inCallback = false →
    decode (.busWrite32 (regAddr n 0x0) v) = .ok (.wr32Base n v) ∧
      setsChannel (.wr32Base n v) n { s.dma.chan n with base := v.extractLsb' 0 24 } s ∧
      decode (.busWrite16 (regAddr n 0x0) h) = .ok (.wr16Base n h) ∧
      setsChannel (.wr16Base n h) n { s.dma.chan n with base := 0#8 ++ h } s ∧
      decode (.busWrite16 (regAddr n 0x2) h) = .error (.unhandledAddress (regAddr n 0x2))

/-- O3. RD32.BLOCK, RD16.BLOCK return each half modulo 0x10000 (decision D3); WR16.BLOCK stores the size and a count of 0x10000. -/
def Obligations.BlockControlReadsAndHalfWrite : Prop :=
  ∀ (n : Chan) (h : Half) (s : State),
    returns (.rd32Block n) (.word (BitVec.ofNat 16 (s.dma.chan n).blockCount ++ BitVec.ofNat 16 (s.dma.chan n).blockSize)) s ∧
      returns (.rd16Block n) (.half (BitVec.ofNat 16 (s.dma.chan n).blockSize)) s ∧
      (s.dma.inCallback = false →
        setsChannel (.wr16Block n h) n
          { s.dma.chan n with blockSize := if h = 0 then 0x10000 else h.toNat, blockCount := 0x10000 } s)

/-- O4. WR32.BLOCK splits the word into size and count, a written 0 standing for 0x10000, in every sync mode. -/
def Obligations.BlockControlWordWrite : Prop :=
  ∀ (n : Chan) (v : Word) (s : State), s.dma.inCallback = false →
    decode (.busWrite32 (regAddr n 0x4) v) = .ok (.wr32Block n v) ∧
      setsChannel (.wr32Block n v) n
        { s.dma.chan n with
          blockSize := if v.extractLsb' 0 16 = 0 then 0x10000 else (v.extractLsb' 0 16).toNat
          blockCount := if v.extractLsb' 16 16 = 0 then 0x10000 else (v.extractLsb' 16 16).toNat } s

/-- O5. RD32.CTRL assembles the nine fields at their positions with zeros elsewhere (decision D4); RD16.CTRL is its low half. -/
def Obligations.ControlReads : Prop :=
  ∀ (n : Chan) (s : State),
    returns (.rd32Ctrl n)
        (.word (0#1 ++ (s.dma.chan n).readWrite ++ BitVec.ofBool (s.dma.chan n).trigger ++ 0#3 ++
          BitVec.ofBool (s.dma.chan n).enabled ++ 0#1 ++ (s.dma.chan n).chopCpuWin ++ 0#1 ++ (s.dma.chan n).chopDmaWin ++ 0#5 ++
          (s.dma.chan n).sync.bits ++ BitVec.ofBool (s.dma.chan n).chop ++ 0#6 ++ BitVec.ofBool (s.dma.chan n).step ++
          BitVec.ofBool (s.dma.chan n).direction)) s ∧
      returns (.rd16Ctrl n)
        (.half (0#5 ++ (s.dma.chan n).sync.bits ++ BitVec.ofBool (s.dma.chan n).chop ++ 0#6 ++ BitVec.ofBool (s.dma.chan n).step ++
          BitVec.ofBool (s.dma.chan n).direction)) s

/-- O6. A control write with sync value 3 raises InvalidConfiguration before any store (D6, Log 11), in an invocation too (Log 7); nothing else raises it. -/
def Obligations.ReservedSyncRaises : Prop :=
  ∀ (n : Chan) (v : Word) (h : Half) (s : State),
    (v.extractLsb' 9 2 = 3 → raises (.wr32Ctrl n v) (.invalidConfiguration n v) s) ∧
      (h.extractLsb' 9 2 = 3 → raises (.wr16Ctrl n h) (.invalidConfiguration n (0#16 ++ h)) s) ∧
      ∀ (i : Instr) (t : State), exec i s = .next t → t.result = .error (.invalidConfiguration n v) →
        v.extractLsb' 9 2 = 3 ∧ (i = .wr32Ctrl n v ∨ ∃ k : Half, i = .wr16Ctrl n k ∧ v = 0#16 ++ k)

/-- O7. A legal channel-control write that leaves the channel inactive stores the nine fields and nothing else; WR16.CTRL always is one. -/
def Obligations.ControlWriteInactive : Prop :=
  ∀ (n : Chan) (v : Word) (h : Half) (s : State), s.dma.inCallback = false →
    (v.extractLsb' 9 2 ≠ 3 → ¬activates v → setsChannel (.wr32Ctrl n v) n (writtenChannel v (s.dma.chan n)) s) ∧
      (h.extractLsb' 9 2 ≠ 3 → setsChannel (.wr16Ctrl n h) n (writtenChannel (0#16 ++ h) (s.dma.chan n)) s)

/-- O8. An activating WR32.CTRL invokes the bound engine once, on the fields just written, and returns after Done and SetIRQ (Log 5). -/
def Obligations.ControlWriteDispatches : Prop :=
  ∀ (n : Chan) (v : Word) (e : Nat) (s : State), s.dma.inCallback = false → s.dma.engine = some e → v.extractLsb' 9 2 ≠ 3 → activates v →
    ∃ t, exec (.wr32Ctrl n v) s = .next t ∧ dispatched n (writtenChannel v (s.dma.chan n)) s t

/-- O9. The engine is invoked only in an activating control write, once, and only when bound; TRIGGER names that invocation and is refused elsewhere (Log 25). -/
def Obligations.DispatchNeedsWriteAndEngine : Prop :=
  ∀ (n : Chan) (v : Word) (s : State),
    (s.dma.inCallback = false → v.extractLsb' 9 2 ≠ 3 → activates v →
        exec (.wr32Ctrl n v) s =
          exec (.triggerCh n.val)
            { s with
              dma := { s.dma.setChan n (writtenChannel v (s.dma.chan n)) with dispatching := some n }, result := .completed }) ∧
      (s.dma.inCallback = false → s.dma.engine = none → v.extractLsb' 9 2 ≠ 3 → activates v →
        exec (.wr32Ctrl n v) s = .refused .noEngineBound) ∧
      (s.dma.inCallback = false → s.dma.dispatching = some n → (s.dma.chan n).active →
        (s.dma.engine = none → exec (.triggerCh n.val) s = .refused .noEngineBound) ∧
          ∀ e, s.dma.engine = some e → ∃ t, exec (.triggerCh n.val) s = .next t ∧ dispatched n (s.dma.chan n) s t) ∧
      (s.dma.inCallback = false → ¬(s.dma.dispatching = some n ∧ (s.dma.chan n).active) →
        exec (.triggerCh n.val) s = .refused (.noDispatchingWrite n)) ∧
      (s.dma.inCallback = true → exec (.triggerCh n.val) s = .refused .nestedTrigger) ∧
      (∀ k, 7 ≤ k → exec (.triggerCh k) s = .refused (.noSuchChannel k)) ∧
      ∀ (i : Instr) (t : State), s.dma.dispatching = none → exec i s = .next t →
        t.engineCalls = s.engineCalls ∨
          ∃ (m : Chan) (w : Word) (k : EngineCall),
            i = .wr32Ctrl m w ∧ w.extractLsb' 9 2 ≠ 3 ∧ activates w ∧ t.engineCalls = s.engineCalls ++ [k] ∧ k.port = m

/-- O10. RD8 and WR8 at any byte of a channel register raise UnhandledAddress with that address and change nothing. -/
def Obligations.ByteAccessToChannelRegisterRaises : Prop :=
  ∀ (n : Chan) (k : BitVec 2) (b : Byte) (s : State),
    (decode (.busRead8 (regAddr n 0x0 + k.setWidth 32)) = .ok (.rd8Base n k) ∧
        raises (.rd8Base n k) (.unhandledAddress (regAddr n 0x0 + k.setWidth 32)) s) ∧
      (decode (.busWrite8 (regAddr n 0x0 + k.setWidth 32) b) = .ok (.wr8Base n k b) ∧
        raises (.wr8Base n k b) (.unhandledAddress (regAddr n 0x0 + k.setWidth 32)) s) ∧
      (decode (.busRead8 (regAddr n 0x4 + k.setWidth 32)) = .ok (.rd8Block n k) ∧
        raises (.rd8Block n k) (.unhandledAddress (regAddr n 0x4 + k.setWidth 32)) s) ∧
      (decode (.busWrite8 (regAddr n 0x4 + k.setWidth 32) b) = .ok (.wr8Block n k b) ∧
        raises (.wr8Block n k b) (.unhandledAddress (regAddr n 0x4 + k.setWidth 32)) s) ∧
      (decode (.busRead8 (regAddr n 0x8 + k.setWidth 32)) = .ok (.rd8Ctrl n k) ∧
        raises (.rd8Ctrl n k) (.unhandledAddress (regAddr n 0x8 + k.setWidth 32)) s) ∧
      (decode (.busWrite8 (regAddr n 0x8 + k.setWidth 32) b) = .ok (.wr8Ctrl n k b) ∧
        raises (.wr8Ctrl n k b) (.unhandledAddress (regAddr n 0x8 + k.setWidth 32)) s)

/-- O11. A bus access at an address that selects no register at its width raises UnhandledAddress; at the others it decodes. -/
def Obligations.AddressMapIsComplete : Prop :=
  ∀ (r : Request) (width : Nat) (addr : Word) (rest : List Input) (s : State), busAccess r = some (width, addr) →
    (addr ∈ acceptedAddrs width → ∃ i, decode r = .ok i ∧ encode i = r) ∧
      (addr ∉ acceptedAddrs width → s.pending = .operation r :: rest →
        step s = .next { s with pending := rest, result := .error (.unhandledAddress addr) })

/-- O12. RD32.DPCR returns the stored word and RD16.DPCR its low half; after reset 0x07654321 and 0x4321. -/
def Obligations.PriorityRegisterReads : Prop :=
  (∀ s : State,
      decode (.busRead32 0x1F8010F0) = .ok .rd32Dpcr ∧ returns .rd32Dpcr (.word s.dma.dpcr) s ∧
        decode (.busRead16 0x1F8010F0) = .ok .rd16Dpcr ∧ returns .rd16Dpcr (.half (s.dma.dpcr.extractLsb' 0 16)) s ∧
        decode (.busRead16 0x1F8010F2) = .error (.unhandledAddress 0x1F8010F2)) ∧
    returns .rd32Dpcr (.word 0x07654321) State.reset ∧ returns .rd16Dpcr (.half 0x4321) State.reset

/-- O13. WR32.DPCR stores the whole word, WR16.DPCR the widened half; no channel, flag or transfer is touched (decision D8). -/
def Obligations.PriorityRegisterWrites : Prop :=
  ∀ (v : Word) (h : Half) (s : State), s.dma.inCallback = false →
    exec (.wr32Dpcr v) s = .next { s with dma := { s.dma with dpcr := v }, result := .completed } ∧
      exec (.wr16Dpcr h) s = .next { s with dma := { s.dma with dpcr := 0#16 ++ h }, result := .completed }

/-- O14. RD32.DICR returns the fields at their positions with the master flag computed at the read and bits 14:7 zero (decision D9). -/
def Obligations.InterruptRegisterWordRead : Prop :=
  ∀ s : State,
    returns .rd32Dicr
      (.word (BitVec.ofBool (s.dma.busError || s.dma.masterEnable && s.dma.mask &&& s.dma.flags != 0) ++ s.dma.flags ++
        BitVec.ofBool s.dma.masterEnable ++ s.dma.mask ++ BitVec.ofBool s.dma.busError ++ 0#8 ++ s.dma.cic)) s

/-- O15. WR32.DICR stores cic, busError, mask and masterEnable and clears the flags at which it writes 1. -/
def Obligations.InterruptRegisterWordWrite : Prop :=
  ∀ (v : Word) (s : State), s.dma.inCallback = false →
    decode (.busWrite32 0x1F8010F4 v) = .ok (.wr32Dicr v) ∧
      exec (.wr32Dicr v) s = .next { s with
        dma := { s.dma with
          cic := v.extractLsb' 0 7, busError := v.getLsbD 15, mask := v.extractLsb' 16 7, masterEnable := v.getLsbD 23,
          flags := s.dma.flags &&& ~~~(v.extractLsb' 24 7) },
        result := .completed }

/-- O16. Half accesses to DICR act on the two byte lanes they cover (decision D10). -/
def Obligations.InterruptRegisterHalves : Prop :=
  ∀ (h : Half) (s : State),
    returns .rd16DicrL (.half (BitVec.ofBool s.dma.busError ++ 0#8 ++ s.dma.cic)) s ∧
      returns .rd16DicrH
        (.half (BitVec.ofBool (s.dma.busError || s.dma.masterEnable && s.dma.mask &&& s.dma.flags != 0) ++ s.dma.flags ++
          BitVec.ofBool s.dma.masterEnable ++ s.dma.mask)) s ∧
      (s.dma.inCallback = false →
        exec (.wr16DicrL h) s =
            .next { s with dma := { s.dma with cic := h.extractLsb' 0 7, busError := h.getLsbD 15 }, result := .completed } ∧
          exec (.wr16DicrH h) s =
            .next { s with
              dma := { s.dma with
                mask := h.extractLsb' 0 7, masterEnable := h.getLsbD 7, flags := s.dma.flags &&& ~~~(h.extractLsb' 8 7) },
              result := .completed })

/-- O17. RD8.DICR0..3 return the fields of their byte, the master flag computed at the read, and clear nothing. -/
def Obligations.InterruptRegisterByteReads : Prop :=
  ∀ s : State,
    (decode (.busRead8 0x1F8010F4) = .ok .rd8Dicr0 ∧ returns .rd8Dicr0 (.byte (0#1 ++ s.dma.cic)) s) ∧
      (decode (.busRead8 0x1F8010F5) = .ok .rd8Dicr1 ∧ returns .rd8Dicr1 (.byte (BitVec.ofBool s.dma.busError ++ 0#7)) s) ∧
      (decode (.busRead8 0x1F8010F6) = .ok .rd8Dicr2 ∧
        returns .rd8Dicr2 (.byte (BitVec.ofBool s.dma.masterEnable ++ s.dma.mask)) s) ∧
      (decode (.busRead8 0x1F8010F7) = .ok .rd8Dicr3 ∧
        returns .rd8Dicr3
          (.byte (BitVec.ofBool (s.dma.busError || s.dma.masterEnable && s.dma.mask &&& s.dma.flags != 0) ++ s.dma.flags)) s)

/-- O18. WR8.DICR0..3 write the fields of their byte only; byte 3 clears the flags at which it writes 1. -/
def Obligations.InterruptRegisterByteWrites : Prop :=
  ∀ (b : Byte) (s : State), s.dma.inCallback = false →
    (decode (.busWrite8 0x1F8010F4 b) = .ok (.wr8Dicr0 b) ∧
        exec (.wr8Dicr0 b) s = .next { s with dma := { s.dma with cic := b.extractLsb' 0 7 }, result := .completed }) ∧
      (decode (.busWrite8 0x1F8010F5 b) = .ok (.wr8Dicr1 b) ∧
        exec (.wr8Dicr1 b) s = .next { s with dma := { s.dma with busError := b.getLsbD 7 }, result := .completed }) ∧
      (decode (.busWrite8 0x1F8010F6 b) = .ok (.wr8Dicr2 b) ∧
        exec (.wr8Dicr2 b) s =
          .next { s with dma := { s.dma with mask := b.extractLsb' 0 7, masterEnable := b.getLsbD 7 }, result := .completed }) ∧
      (decode (.busWrite8 0x1F8010F7 b) = .ok (.wr8Dicr3 b) ∧
        exec (.wr8Dicr3 b) s =
          .next { s with dma := { s.dma with flags := s.dma.flags &&& ~~~(b.extractLsb' 0 7) }, result := .completed })

/-- O19. Reading DICR after writing a control value gives the control bits back, the old flags and a consistent master flag. -/
def Obligations.InterruptRegisterRoundTrip : Prop :=
  ∀ (v : Word) (s : State), s.dma.inCallback = false → v &&& ~~~0x00FF807F#32 = 0 →
    ∃ t u r, exec (.wr32Dicr v) s = .next t ∧ exec .rd32Dicr t = .next u ∧ u.result = .word r ∧ r &&& 0x00FF807F = v ∧
      r.extractLsb' 24 7 = s.dma.flags ∧
      r.getLsbD 31 = (v.getLsbD 15 || v.getLsbD 23 && v.extractLsb' 16 7 &&& s.dma.flags != 0)

/-- O20. SETIRQ n sets exactly flag n whatever the mask holds; IRQEN n returns mask bit n; a number above 6 is refused. -/
def Obligations.SetInterruptFlagAndMaskTest : Prop :=
  ∀ (n : Nat) (s : State),
    (n < 7 →
        exec (.setIrq n) s = .next { s with dma := { s.dma with flags := s.dma.flags ||| 1#7 <<< n }, result := .completed } ∧
          returns (.irqEn n) (.bit (s.dma.mask.getLsbD n)) s) ∧
      (7 ≤ n → exec (.setIrq n) s = .refused (.noSuchChannel n) ∧ exec (.irqEn n) s = .refused (.noSuchChannel n))

/-- O21. HASIRQ returns the derived level; DONE n clears enabled and trigger of channel n and nothing else. -/
def Obligations.InterruptLevelAndDone : Prop :=
  ∀ (n : Nat) (s : State),
    returns .hasIrq (.bit (s.dma.busError || s.dma.masterEnable && s.dma.mask &&& s.dma.flags != 0)) s ∧
      (∀ h : n < 7, setsChannel (.doneCh n) ⟨n, h⟩ { s.dma.chan ⟨n, h⟩ with enabled := false, trigger := false } s) ∧
      (7 ≤ n → exec (.doneCh n) s = .refused (.noSuchChannel n))

/-- O22. While a transfer engine invocation is in progress every bus write that would store is refused by name (Log 7). -/
def Obligations.BusWritesInsideInvocationRefused : Prop :=
  ∀ (i : Instr) (s : State), isAcceptedBusWrite i = true → s.dma.inCallback = true → exec i s = .refused .busWriteInCallback

/-- O23. No read of any width changes any state of DMA, and reading again returns the same value. -/
def Obligations.DmaReadsHaveNoSideEffect : Prop :=
  ∀ (i : Instr) (s t : State), isDmaRead i = true → exec i s = .next t → t = { s with result := t.result } ∧ exec i t = .next t

/-- O24. A flag is set only by SETIRQ or a completed transfer with its mask bit set, and cleared only by writing 1 to it in DICR. -/
def Obligations.OnlyNamedOperationsMoveFlags : Prop :=
  ∀ (i : Instr) (s t : State) (m : Chan), exec i s = .next t →
    (s.dma.flags.getLsbD m.val = false → t.dma.flags.getLsbD m.val = true →
        i = .setIrq m.val ∨ (s.dma.mask.getLsbD m.val = true ∧ (i = .triggerCh m.val ∨ ∃ v, i = .wr32Ctrl m v))) ∧
      (s.dma.flags.getLsbD m.val = true → t.dma.flags.getLsbD m.val = false →
        (∃ v : Word, i = .wr32Dicr v ∧ v.getLsbD (24 + m.val) = true) ∨
          (∃ h : Half, i = .wr16DicrH h ∧ h.getLsbD (8 + m.val) = true) ∨
          ∃ b : Byte, i = .wr8Dicr3 b ∧ b.getLsbD m.val = true)

/-- O25. BEGIN on a polygon word fixes the flags, the vertex count, the expected count and the context, and empties the buffer. -/
def Obligations.BeginPolygon : Prop :=
  ∀ (w0 : Word) (ctx : DrawCtx) (s : State), w0.extractLsb' 29 3 = 1 →
    ∃ p : Polygon, p.shaped ∧ p.gouraud = w0.getLsbD 28 ∧ p.quad = w0.getLsbD 27 ∧ p.textured = w0.getLsbD 26 ∧
      p.semi = w0.getLsbD 25 ∧ p.raw = w0.getLsbD 24 ∧ p.ctx = { ditherEnable := ctx.ditherEnable, globalBlend := ctx.globalBlend } ∧
      p.decoded = none ∧
      exec (.beginPrim w0 ctx) s = .next { s with gpa := { prim := .polygon p, buf := [] }, result := .completed }

/-- O26. BEGIN on a rectangle word fixes size class, flags, expected count and context; any other first word is refused. -/
def Obligations.BeginRectangleOrRefuse : Prop :=
  ∀ (w0 : Word) (ctx : DrawCtx) (s : State),
    (w0.extractLsb' 29 3 = 3 →
        ∃ r : Rectangle, r.shaped ∧
          r.size = (match (w0.extractLsb' 27 2).toNat with
            | 0 => .variable
            | 1 => .one
            | 2 => .eight
            | _ => .sixteen) ∧
          r.textured = w0.getLsbD 26 ∧ r.semi = w0.getLsbD 25 ∧ r.raw = w0.getLsbD 24 ∧ r.ctx = ctx ∧
          exec (.beginPrim w0 ctx) s = .next { s with gpa := { prim := .rectangle r, buf := [] }, result := .completed }) ∧
      (w0.extractLsb' 29 3 ≠ 1 → w0.extractLsb' 29 3 ≠ 3 → exec (.beginPrim w0 ctx) s = .refused (.notAPrimitive w0))

/-- O27. ADD appends its word while the primitive is not ready; ADD when ready, DRAW when not, and both without a primitive are refused. -/
def Obligations.AddAppendsOrIsRefused : Prop :=
  ∀ (w : Word) (s : State),
    (∀ e, expectedOf s.gpa.prim = some e → s.gpa.buf.length < e →
        exec (.addWord w) s = .next { s with gpa := { s.gpa with buf := s.gpa.buf ++ [w] }, result := .completed }) ∧
      (∀ e, expectedOf s.gpa.prim = some e → e ≤ s.gpa.buf.length → exec (.addWord w) s = .refused .addWhenReady) ∧
      (∀ e, expectedOf s.gpa.prim = some e → s.gpa.buf.length ≠ e → exec .draw s = .refused .drawNotReady) ∧
      (s.gpa.prim = .none → exec (.addWord w) s = .refused .noPrimitive ∧ exec .draw s = .refused .noPrimitive)

/-- O28. READY returns whether the buffer length equals the expected count, changes nothing, and is refused without a primitive. -/
def Obligations.ReadyComparesCounts : Prop :=
  ∀ s : State,
    (∀ e, expectedOf s.gpa.prim = some e → returns .ready (.bit (decide (s.gpa.buf.length = e))) s) ∧
      (s.gpa.prim = .none → exec .ready s = .refused .noPrimitive)

/-- O29. The first DRAW of a ready polygon emits the triangles of its vertices, each read from the word indices of R120. -/
def Obligations.DrawPolygonEmitsStreamVertices : Prop :=
  ∀ (p : Polygon) (s : State), s.gpa.prim = .polygon p → p.shaped → p.decoded = none → s.gpa.buf.length = p.expected →
    ∃ t a, exec .draw s = .next t ∧ t.gpa = { s.gpa with prim := .polygon { p with decoded := some a } } ∧
      t.toRenderer = s.toRenderer ++
        strip ((List.range (if p.quad then 4 else 3)).map (streamVertex p s.gpa.buf)) ∧
      t.result = .completed ∧ onlyAssembler s t

/-- O30. DRAW of a ready rectangle emits the two triangles of its four corners and writes no state. -/
def Obligations.DrawRectangleEmitsTwoTriangles : Prop :=
  ∀ (r : Rectangle) (s : State), s.gpa.prim = .rectangle r → r.shaped → s.gpa.buf.length = r.expected →
    ∃ t, exec .draw s = .next t ∧ t.gpa = s.gpa ∧
      t.toRenderer = s.toRenderer ++
        rectangleTriangles r.ctx (s.gpa.buf.getD 1 0)
          (if r.textured ∧ r.raw then rawRectangleColor ((s.gpa.buf.getD 0 0).extractLsb' 0 24)
            else (s.gpa.buf.getD 0 0).extractLsb' 0 24)
          (if r.textured then some (s.gpa.buf.getD 2 0) else none) r.semi
          (match r.size with
            | .variable => (s.gpa.buf.getD (if r.textured then 3 else 2) 0).extractLsb' 0 16
            | .one => 1
            | .eight => 8
            | .sixteen => 16)
          (match r.size with
            | .variable => (s.gpa.buf.getD (if r.textured then 3 else 2) 0).extractLsb' 16 16
            | .one => 1
            | .eight => 8
            | .sixteen => 16) ∧
      t.result = .completed ∧ onlyAssembler s t

/-- O31. A DRAW after a DRAW emits the same triangles once more and changes nothing else (decision D34). -/
def Obligations.DrawAgainEmitsAgain : Prop :=
  ∀ s t : State, exec .draw s = .next t →
    ∃ ts, t.toRenderer = s.toRenderer ++ ts ∧ exec .draw t = .next { t with toRenderer := t.toRenderer ++ ts }

/-- O32. POLY.F3*, POLY.F4* without texture: every vertex has the command colour; raw has no effect; blend mode from the context (Log 11, Log 15). -/
def Obligations.FlatUntexturedPolygonsDraw : Prop :=
  ∀ (ctx : PolyCtx) (c0 : BitVec 24) (p0 p1 p2 p3 : Word) (s : State),
    drawsPolygon (.polyF3 ctx c0 p0 p1 p2) s false false false false false ctx
        [0x20#8 ++ c0, p0, p1, p2]
        (strip [
          plainVertex p0 c0 ctx.ditherEnable .solid,
          plainVertex p1 c0 ctx.ditherEnable .solid,
          plainVertex p2 c0 ctx.ditherEnable .solid]) ∧
      drawsPolygon (.polyF3R ctx c0 p0 p1 p2) s false false false false true ctx
        [0x21#8 ++ c0, p0, p1, p2]
        (strip [
          plainVertex p0 c0 ctx.ditherEnable .solid,
          plainVertex p1 c0 ctx.ditherEnable .solid,
          plainVertex p2 c0 ctx.ditherEnable .solid]) ∧
      drawsPolygon (.polyF3S ctx c0 p0 p1 p2) s false false false true false ctx
        [0x22#8 ++ c0, p0, p1, p2]
        (strip [
          plainVertex p0 c0 ctx.ditherEnable (.blend ctx.globalBlend),
          plainVertex p1 c0 ctx.ditherEnable (.blend ctx.globalBlend),
          plainVertex p2 c0 ctx.ditherEnable (.blend ctx.globalBlend)]) ∧
      drawsPolygon (.polyF3SR ctx c0 p0 p1 p2) s false false false true true ctx
        [0x23#8 ++ c0, p0, p1, p2]
        (strip [
          plainVertex p0 c0 ctx.ditherEnable (.blend ctx.globalBlend),
          plainVertex p1 c0 ctx.ditherEnable (.blend ctx.globalBlend),
          plainVertex p2 c0 ctx.ditherEnable (.blend ctx.globalBlend)]) ∧
      drawsPolygon (.polyF4 ctx c0 p0 p1 p2 p3) s false true false false false ctx
        [0x28#8 ++ c0, p0, p1, p2, p3]
        (strip [
          plainVertex p0 c0 ctx.ditherEnable .solid,
          plainVertex p1 c0 ctx.ditherEnable .solid,
          plainVertex p2 c0 ctx.ditherEnable .solid,
          plainVertex p3 c0 ctx.ditherEnable .solid]) ∧
      drawsPolygon (.polyF4R ctx c0 p0 p1 p2 p3) s false true false false true ctx
        [0x29#8 ++ c0, p0, p1, p2, p3]
        (strip [
          plainVertex p0 c0 ctx.ditherEnable .solid,
          plainVertex p1 c0 ctx.ditherEnable .solid,
          plainVertex p2 c0 ctx.ditherEnable .solid,
          plainVertex p3 c0 ctx.ditherEnable .solid]) ∧
      drawsPolygon (.polyF4S ctx c0 p0 p1 p2 p3) s false true false true false ctx
        [0x2A#8 ++ c0, p0, p1, p2, p3]
        (strip [
          plainVertex p0 c0 ctx.ditherEnable (.blend ctx.globalBlend),
          plainVertex p1 c0 ctx.ditherEnable (.blend ctx.globalBlend),
          plainVertex p2 c0 ctx.ditherEnable (.blend ctx.globalBlend),
          plainVertex p3 c0 ctx.ditherEnable (.blend ctx.globalBlend)]) ∧
      drawsPolygon (.polyF4SR ctx c0 p0 p1 p2 p3) s false true false true true ctx
        [0x2B#8 ++ c0, p0, p1, p2, p3]
        (strip [
          plainVertex p0 c0 ctx.ditherEnable (.blend ctx.globalBlend),
          plainVertex p1 c0 ctx.ditherEnable (.blend ctx.globalBlend),
          plainVertex p2 c0 ctx.ditherEnable (.blend ctx.globalBlend),
          plainVertex p3 c0 ctx.ditherEnable (.blend ctx.globalBlend)])

/-- O33. POLY.F3T*, POLY.F4T*: CLUT and page from the first two UV words; raw ones are neutral gray and never dithered (Log 11, Log 15). -/
def Obligations.FlatTexturedPolygonsDraw : Prop :=
  ∀ (ctx : PolyCtx) (c0 : BitVec 24) (p0 t0 p1 t1 p2 t2 p3 t3 : Word) (s : State),
    drawsPolygon (.polyF3T ctx c0 p0 t0 p1 t1 p2 t2) s false false true false false ctx
        [0x24#8 ++ c0, p0, t0, p1, t1, p2, t2]
        (strip [
          texturedVertex p0 t0 c0 t0 t1 ctx.ditherEnable .solid,
          texturedVertex p1 t1 c0 t0 t1 ctx.ditherEnable .solid,
          texturedVertex p2 t2 c0 t0 t1 ctx.ditherEnable .solid]) ∧
      drawsPolygon (.polyF3TR ctx c0 p0 t0 p1 t1 p2 t2) s false false true false true ctx
        [0x25#8 ++ c0, p0, t0, p1, t1, p2, t2]
        (strip [
          texturedVertex p0 t0 0x808080 t0 t1 false .solid,
          texturedVertex p1 t1 0x808080 t0 t1 false .solid,
          texturedVertex p2 t2 0x808080 t0 t1 false .solid]) ∧
      drawsPolygon (.polyF3TS ctx c0 p0 t0 p1 t1 p2 t2) s false false true true false ctx
        [0x26#8 ++ c0, p0, t0, p1, t1, p2, t2]
        (strip [
          texturedVertex p0 t0 c0 t0 t1 ctx.ditherEnable (pageBlendOf t1),
          texturedVertex p1 t1 c0 t0 t1 ctx.ditherEnable (pageBlendOf t1),
          texturedVertex p2 t2 c0 t0 t1 ctx.ditherEnable (pageBlendOf t1)]) ∧
      drawsPolygon (.polyF3TSR ctx c0 p0 t0 p1 t1 p2 t2) s false false true true true ctx
        [0x27#8 ++ c0, p0, t0, p1, t1, p2, t2]
        (strip [
          texturedVertex p0 t0 0x808080 t0 t1 false (pageBlendOf t1),
          texturedVertex p1 t1 0x808080 t0 t1 false (pageBlendOf t1),
          texturedVertex p2 t2 0x808080 t0 t1 false (pageBlendOf t1)]) ∧
      drawsPolygon (.polyF4T ctx c0 p0 t0 p1 t1 p2 t2 p3 t3) s false true true false false ctx
        [0x2C#8 ++ c0, p0, t0, p1, t1, p2, t2, p3, t3]
        (strip [
          texturedVertex p0 t0 c0 t0 t1 ctx.ditherEnable .solid,
          texturedVertex p1 t1 c0 t0 t1 ctx.ditherEnable .solid,
          texturedVertex p2 t2 c0 t0 t1 ctx.ditherEnable .solid,
          texturedVertex p3 t3 c0 t0 t1 ctx.ditherEnable .solid]) ∧
      drawsPolygon (.polyF4TR ctx c0 p0 t0 p1 t1 p2 t2 p3 t3) s false true true false true ctx
        [0x2D#8 ++ c0, p0, t0, p1, t1, p2, t2, p3, t3]
        (strip [
          texturedVertex p0 t0 0x808080 t0 t1 false .solid,
          texturedVertex p1 t1 0x808080 t0 t1 false .solid,
          texturedVertex p2 t2 0x808080 t0 t1 false .solid,
          texturedVertex p3 t3 0x808080 t0 t1 false .solid]) ∧
      drawsPolygon (.polyF4TS ctx c0 p0 t0 p1 t1 p2 t2 p3 t3) s false true true true false ctx
        [0x2E#8 ++ c0, p0, t0, p1, t1, p2, t2, p3, t3]
        (strip [
          texturedVertex p0 t0 c0 t0 t1 ctx.ditherEnable (pageBlendOf t1),
          texturedVertex p1 t1 c0 t0 t1 ctx.ditherEnable (pageBlendOf t1),
          texturedVertex p2 t2 c0 t0 t1 ctx.ditherEnable (pageBlendOf t1),
          texturedVertex p3 t3 c0 t0 t1 ctx.ditherEnable (pageBlendOf t1)]) ∧
      drawsPolygon (.polyF4TSR ctx c0 p0 t0 p1 t1 p2 t2 p3 t3) s false true true true true ctx
        [0x2F#8 ++ c0, p0, t0, p1, t1, p2, t2, p3, t3]
        (strip [
          texturedVertex p0 t0 0x808080 t0 t1 false (pageBlendOf t1),
          texturedVertex p1 t1 0x808080 t0 t1 false (pageBlendOf t1),
          texturedVertex p2 t2 0x808080 t0 t1 false (pageBlendOf t1),
          texturedVertex p3 t3 0x808080 t0 t1 false (pageBlendOf t1)])

/-- O34. POLY.G3*, POLY.G4* without texture: one colour per vertex, the first from the command word (Log 11, Log 15). -/
def Obligations.GouraudUntexturedPolygonsDraw : Prop :=
  ∀ (ctx : PolyCtx) (c0 : BitVec 24) (p0 c1 p1 c2 p2 c3 p3 : Word) (s : State),
    drawsPolygon (.polyG3 ctx c0 p0 c1 p1 c2 p2) s true false false false false ctx
        [0x30#8 ++ c0, p0, c1, p1, c2, p2]
        (strip [
          plainVertex p0 c0 ctx.ditherEnable .solid,
          plainVertex p1 (c1.extractLsb' 0 24) ctx.ditherEnable .solid,
          plainVertex p2 (c2.extractLsb' 0 24) ctx.ditherEnable .solid]) ∧
      drawsPolygon (.polyG3R ctx c0 p0 c1 p1 c2 p2) s true false false false true ctx
        [0x31#8 ++ c0, p0, c1, p1, c2, p2]
        (strip [
          plainVertex p0 c0 ctx.ditherEnable .solid,
          plainVertex p1 (c1.extractLsb' 0 24) ctx.ditherEnable .solid,
          plainVertex p2 (c2.extractLsb' 0 24) ctx.ditherEnable .solid]) ∧
      drawsPolygon (.polyG3S ctx c0 p0 c1 p1 c2 p2) s true false false true false ctx
        [0x32#8 ++ c0, p0, c1, p1, c2, p2]
        (strip [
          plainVertex p0 c0 ctx.ditherEnable (.blend ctx.globalBlend),
          plainVertex p1 (c1.extractLsb' 0 24) ctx.ditherEnable (.blend ctx.globalBlend),
          plainVertex p2 (c2.extractLsb' 0 24) ctx.ditherEnable (.blend ctx.globalBlend)]) ∧
      drawsPolygon (.polyG3SR ctx c0 p0 c1 p1 c2 p2) s true false false true true ctx
        [0x33#8 ++ c0, p0, c1, p1, c2, p2]
        (strip [
          plainVertex p0 c0 ctx.ditherEnable (.blend ctx.globalBlend),
          plainVertex p1 (c1.extractLsb' 0 24) ctx.ditherEnable (.blend ctx.globalBlend),
          plainVertex p2 (c2.extractLsb' 0 24) ctx.ditherEnable (.blend ctx.globalBlend)]) ∧
      drawsPolygon (.polyG4 ctx c0 p0 c1 p1 c2 p2 c3 p3) s true true false false false ctx
        [0x38#8 ++ c0, p0, c1, p1, c2, p2, c3, p3]
        (strip [
          plainVertex p0 c0 ctx.ditherEnable .solid,
          plainVertex p1 (c1.extractLsb' 0 24) ctx.ditherEnable .solid,
          plainVertex p2 (c2.extractLsb' 0 24) ctx.ditherEnable .solid,
          plainVertex p3 (c3.extractLsb' 0 24) ctx.ditherEnable .solid]) ∧
      drawsPolygon (.polyG4R ctx c0 p0 c1 p1 c2 p2 c3 p3) s true true false false true ctx
        [0x39#8 ++ c0, p0, c1, p1, c2, p2, c3, p3]
        (strip [
          plainVertex p0 c0 ctx.ditherEnable .solid,
          plainVertex p1 (c1.extractLsb' 0 24) ctx.ditherEnable .solid,
          plainVertex p2 (c2.extractLsb' 0 24) ctx.ditherEnable .solid,
          plainVertex p3 (c3.extractLsb' 0 24) ctx.ditherEnable .solid]) ∧
      drawsPolygon (.polyG4S ctx c0 p0 c1 p1 c2 p2 c3 p3) s true true false true false ctx
        [0x3A#8 ++ c0, p0, c1, p1, c2, p2, c3, p3]
        (strip [
          plainVertex p0 c0 ctx.ditherEnable (.blend ctx.globalBlend),
          plainVertex p1 (c1.extractLsb' 0 24) ctx.ditherEnable (.blend ctx.globalBlend),
          plainVertex p2 (c2.extractLsb' 0 24) ctx.ditherEnable (.blend ctx.globalBlend),
          plainVertex p3 (c3.extractLsb' 0 24) ctx.ditherEnable (.blend ctx.globalBlend)]) ∧
      drawsPolygon (.polyG4SR ctx c0 p0 c1 p1 c2 p2 c3 p3) s true true false true true ctx
        [0x3B#8 ++ c0, p0, c1, p1, c2, p2, c3, p3]
        (strip [
          plainVertex p0 c0 ctx.ditherEnable (.blend ctx.globalBlend),
          plainVertex p1 (c1.extractLsb' 0 24) ctx.ditherEnable (.blend ctx.globalBlend),
          plainVertex p2 (c2.extractLsb' 0 24) ctx.ditherEnable (.blend ctx.globalBlend),
          plainVertex p3 (c3.extractLsb' 0 24) ctx.ditherEnable (.blend ctx.globalBlend)])

/-- O35. POLY.G3T*, POLY.G4T*: colour, position and UV per vertex; raw ones are neutral gray and still dithered by the context (Log 11, Log 15). -/
def Obligations.GouraudTexturedPolygonsDraw : Prop :=
  ∀ (ctx : PolyCtx) (c0 : BitVec 24) (p0 t0 c1 p1 t1 c2 p2 t2 c3 p3 t3 : Word) (s : State),
    drawsPolygon (.polyG3T ctx c0 p0 t0 c1 p1 t1 c2 p2 t2) s true false true false false ctx
        [0x34#8 ++ c0, p0, t0, c1, p1, t1, c2, p2, t2]
        (strip [
          texturedVertex p0 t0 c0 t0 t1 ctx.ditherEnable .solid,
          texturedVertex p1 t1 (c1.extractLsb' 0 24) t0 t1 ctx.ditherEnable .solid,
          texturedVertex p2 t2 (c2.extractLsb' 0 24) t0 t1 ctx.ditherEnable .solid]) ∧
      drawsPolygon (.polyG3TR ctx c0 p0 t0 c1 p1 t1 c2 p2 t2) s true false true false true ctx
        [0x35#8 ++ c0, p0, t0, c1, p1, t1, c2, p2, t2]
        (strip [
          texturedVertex p0 t0 0x808080 t0 t1 ctx.ditherEnable .solid,
          texturedVertex p1 t1 0x808080 t0 t1 ctx.ditherEnable .solid,
          texturedVertex p2 t2 0x808080 t0 t1 ctx.ditherEnable .solid]) ∧
      drawsPolygon (.polyG3TS ctx c0 p0 t0 c1 p1 t1 c2 p2 t2) s true false true true false ctx
        [0x36#8 ++ c0, p0, t0, c1, p1, t1, c2, p2, t2]
        (strip [
          texturedVertex p0 t0 c0 t0 t1 ctx.ditherEnable (pageBlendOf t1),
          texturedVertex p1 t1 (c1.extractLsb' 0 24) t0 t1 ctx.ditherEnable (pageBlendOf t1),
          texturedVertex p2 t2 (c2.extractLsb' 0 24) t0 t1 ctx.ditherEnable (pageBlendOf t1)]) ∧
      drawsPolygon (.polyG3TSR ctx c0 p0 t0 c1 p1 t1 c2 p2 t2) s true false true true true ctx
        [0x37#8 ++ c0, p0, t0, c1, p1, t1, c2, p2, t2]
        (strip [
          texturedVertex p0 t0 0x808080 t0 t1 ctx.ditherEnable (pageBlendOf t1),
          texturedVertex p1 t1 0x808080 t0 t1 ctx.ditherEnable (pageBlendOf t1),
          texturedVertex p2 t2 0x808080 t0 t1 ctx.ditherEnable (pageBlendOf t1)]) ∧
      drawsPolygon (.polyG4T ctx c0 p0 t0 c1 p1 t1 c2 p2 t2 c3 p3 t3) s true true true false false ctx
        [0x3C#8 ++ c0, p0, t0, c1, p1, t1, c2, p2, t2, c3, p3, t3]
        (strip [
          texturedVertex p0 t0 c0 t0 t1 ctx.ditherEnable .solid,
          texturedVertex p1 t1 (c1.extractLsb' 0 24) t0 t1 ctx.ditherEnable .solid,
          texturedVertex p2 t2 (c2.extractLsb' 0 24) t0 t1 ctx.ditherEnable .solid,
          texturedVertex p3 t3 (c3.extractLsb' 0 24) t0 t1 ctx.ditherEnable .solid]) ∧
      drawsPolygon (.polyG4TR ctx c0 p0 t0 c1 p1 t1 c2 p2 t2 c3 p3 t3) s true true true false true ctx
        [0x3D#8 ++ c0, p0, t0, c1, p1, t1, c2, p2, t2, c3, p3, t3]
        (strip [
          texturedVertex p0 t0 0x808080 t0 t1 ctx.ditherEnable .solid,
          texturedVertex p1 t1 0x808080 t0 t1 ctx.ditherEnable .solid,
          texturedVertex p2 t2 0x808080 t0 t1 ctx.ditherEnable .solid,
          texturedVertex p3 t3 0x808080 t0 t1 ctx.ditherEnable .solid]) ∧
      drawsPolygon (.polyG4TS ctx c0 p0 t0 c1 p1 t1 c2 p2 t2 c3 p3 t3) s true true true true false ctx
        [0x3E#8 ++ c0, p0, t0, c1, p1, t1, c2, p2, t2, c3, p3, t3]
        (strip [
          texturedVertex p0 t0 c0 t0 t1 ctx.ditherEnable (pageBlendOf t1),
          texturedVertex p1 t1 (c1.extractLsb' 0 24) t0 t1 ctx.ditherEnable (pageBlendOf t1),
          texturedVertex p2 t2 (c2.extractLsb' 0 24) t0 t1 ctx.ditherEnable (pageBlendOf t1),
          texturedVertex p3 t3 (c3.extractLsb' 0 24) t0 t1 ctx.ditherEnable (pageBlendOf t1)]) ∧
      drawsPolygon (.polyG4TSR ctx c0 p0 t0 c1 p1 t1 c2 p2 t2 c3 p3 t3) s true true true true true ctx
        [0x3F#8 ++ c0, p0, t0, c1, p1, t1, c2, p2, t2, c3, p3, t3]
        (strip [
          texturedVertex p0 t0 0x808080 t0 t1 ctx.ditherEnable (pageBlendOf t1),
          texturedVertex p1 t1 0x808080 t0 t1 ctx.ditherEnable (pageBlendOf t1),
          texturedVertex p2 t2 0x808080 t0 t1 ctx.ditherEnable (pageBlendOf t1),
          texturedVertex p3 t3 0x808080 t0 t1 ctx.ditherEnable (pageBlendOf t1)])

/-- O36. RECT.V, VR, VS, VSR: two triangles over the corners, width and height from the dimension word (Log 11, Log 15). -/
def Obligations.VariableUntexturedRectanglesDraw : Prop :=
  ∀ (ctx : DrawCtx) (c0 : BitVec 24) (p0 dim : Word) (s : State),
    drawsRectangle (.rectV ctx c0 p0 dim) s .variable false false false ctx [0x60#8 ++ c0, p0, dim]
        (rectangleTriangles ctx p0 c0 none false (dim.extractLsb' 0 16) (dim.extractLsb' 16 16)) ∧
      drawsRectangle (.rectVR ctx c0 p0 dim) s .variable false false true ctx [0x61#8 ++ c0, p0, dim]
        (rectangleTriangles ctx p0 c0 none false (dim.extractLsb' 0 16) (dim.extractLsb' 16 16)) ∧
      drawsRectangle (.rectVS ctx c0 p0 dim) s .variable false true false ctx [0x62#8 ++ c0, p0, dim]
        (rectangleTriangles ctx p0 c0 none true (dim.extractLsb' 0 16) (dim.extractLsb' 16 16)) ∧
      drawsRectangle (.rectVSR ctx c0 p0 dim) s .variable false true true ctx [0x63#8 ++ c0, p0, dim]
        (rectangleTriangles ctx p0 c0 none true (dim.extractLsb' 0 16) (dim.extractLsb' 16 16))

/-- O37. RECT.VT, VTR, VTS, VTSR: texture coordinates per corner; the raw colour under either value of RECT_RAW_GRAY (Log 11, Log 12, Log 15). -/
def Obligations.VariableTexturedRectanglesDraw : Prop :=
  ∀ (ctx : DrawCtx) (c0 : BitVec 24) (p0 t0 dim : Word) (s : State),
    drawsRectangle (.rectVT ctx c0 p0 t0 dim) s .variable true false false ctx [0x64#8 ++ c0, p0, t0, dim]
        (rectangleTriangles ctx p0 c0 (some t0) false (dim.extractLsb' 0 16) (dim.extractLsb' 16 16)) ∧
      drawsRectangle (.rectVTR ctx c0 p0 t0 dim) s .variable true false true ctx [0x65#8 ++ c0, p0, t0, dim]
        (rectangleTriangles ctx p0 (rawRectangleColor c0) (some t0) false (dim.extractLsb' 0 16) (dim.extractLsb' 16 16)) ∧
      drawsRectangle (.rectVTS ctx c0 p0 t0 dim) s .variable true true false ctx [0x66#8 ++ c0, p0, t0, dim]
        (rectangleTriangles ctx p0 c0 (some t0) true (dim.extractLsb' 0 16) (dim.extractLsb' 16 16)) ∧
      drawsRectangle (.rectVTSR ctx c0 p0 t0 dim) s .variable true true true ctx [0x67#8 ++ c0, p0, t0, dim]
        (rectangleTriangles ctx p0 (rawRectangleColor c0) (some t0) true (dim.extractLsb' 0 16) (dim.extractLsb' 16 16))

/-- O38. RECT.1*, RECT.8*, RECT.16* without texture: two triangles over a square of side 1, 8 or 16 (Log 11, Log 15). -/
def Obligations.FixedUntexturedRectanglesDraw : Prop :=
  ∀ (ctx : DrawCtx) (c0 : BitVec 24) (p0 : Word) (s : State),
    drawsRectangle (.rect1 ctx c0 p0) s .one false false false ctx [0x68#8 ++ c0, p0]
        (rectangleTriangles ctx p0 c0 none false 1 1) ∧
      drawsRectangle (.rect1R ctx c0 p0) s .one false false true ctx [0x69#8 ++ c0, p0]
        (rectangleTriangles ctx p0 c0 none false 1 1) ∧
      drawsRectangle (.rect1S ctx c0 p0) s .one false true false ctx [0x6A#8 ++ c0, p0]
        (rectangleTriangles ctx p0 c0 none true 1 1) ∧
      drawsRectangle (.rect1SR ctx c0 p0) s .one false true true ctx [0x6B#8 ++ c0, p0]
        (rectangleTriangles ctx p0 c0 none true 1 1) ∧
      drawsRectangle (.rect8 ctx c0 p0) s .eight false false false ctx [0x70#8 ++ c0, p0]
        (rectangleTriangles ctx p0 c0 none false 8 8) ∧
      drawsRectangle (.rect8R ctx c0 p0) s .eight false false true ctx [0x71#8 ++ c0, p0]
        (rectangleTriangles ctx p0 c0 none false 8 8) ∧
      drawsRectangle (.rect8S ctx c0 p0) s .eight false true false ctx [0x72#8 ++ c0, p0]
        (rectangleTriangles ctx p0 c0 none true 8 8) ∧
      drawsRectangle (.rect8SR ctx c0 p0) s .eight false true true ctx [0x73#8 ++ c0, p0]
        (rectangleTriangles ctx p0 c0 none true 8 8) ∧
      drawsRectangle (.rect16 ctx c0 p0) s .sixteen false false false ctx [0x78#8 ++ c0, p0]
        (rectangleTriangles ctx p0 c0 none false 16 16) ∧
      drawsRectangle (.rect16R ctx c0 p0) s .sixteen false false true ctx [0x79#8 ++ c0, p0]
        (rectangleTriangles ctx p0 c0 none false 16 16) ∧
      drawsRectangle (.rect16S ctx c0 p0) s .sixteen false true false ctx [0x7A#8 ++ c0, p0]
        (rectangleTriangles ctx p0 c0 none true 16 16) ∧
      drawsRectangle (.rect16SR ctx c0 p0) s .sixteen false true true ctx [0x7B#8 ++ c0, p0]
        (rectangleTriangles ctx p0 c0 none true 16 16)

/-- O39. RECT.1T*, RECT.8T*, RECT.16T*: texture coordinates per corner; the raw colour under either value of RECT_RAW_GRAY (Log 11, Log 12, Log 15). -/
def Obligations.FixedTexturedRectanglesDraw : Prop :=
  ∀ (ctx : DrawCtx) (c0 : BitVec 24) (p0 t0 : Word) (s : State),
    drawsRectangle (.rect1T ctx c0 p0 t0) s .one true false false ctx [0x6C#8 ++ c0, p0, t0]
        (rectangleTriangles ctx p0 c0 (some t0) false 1 1) ∧
      drawsRectangle (.rect1TR ctx c0 p0 t0) s .one true false true ctx [0x6D#8 ++ c0, p0, t0]
        (rectangleTriangles ctx p0 (rawRectangleColor c0) (some t0) false 1 1) ∧
      drawsRectangle (.rect1TS ctx c0 p0 t0) s .one true true false ctx [0x6E#8 ++ c0, p0, t0]
        (rectangleTriangles ctx p0 c0 (some t0) true 1 1) ∧
      drawsRectangle (.rect1TSR ctx c0 p0 t0) s .one true true true ctx [0x6F#8 ++ c0, p0, t0]
        (rectangleTriangles ctx p0 (rawRectangleColor c0) (some t0) true 1 1) ∧
      drawsRectangle (.rect8T ctx c0 p0 t0) s .eight true false false ctx [0x74#8 ++ c0, p0, t0]
        (rectangleTriangles ctx p0 c0 (some t0) false 8 8) ∧
      drawsRectangle (.rect8TR ctx c0 p0 t0) s .eight true false true ctx [0x75#8 ++ c0, p0, t0]
        (rectangleTriangles ctx p0 (rawRectangleColor c0) (some t0) false 8 8) ∧
      drawsRectangle (.rect8TS ctx c0 p0 t0) s .eight true true false ctx [0x76#8 ++ c0, p0, t0]
        (rectangleTriangles ctx p0 c0 (some t0) true 8 8) ∧
      drawsRectangle (.rect8TSR ctx c0 p0 t0) s .eight true true true ctx [0x77#8 ++ c0, p0, t0]
        (rectangleTriangles ctx p0 (rawRectangleColor c0) (some t0) true 8 8) ∧
      drawsRectangle (.rect16T ctx c0 p0 t0) s .sixteen true false false ctx [0x7C#8 ++ c0, p0, t0]
        (rectangleTriangles ctx p0 c0 (some t0) false 16 16) ∧
      drawsRectangle (.rect16TR ctx c0 p0 t0) s .sixteen true false true ctx [0x7D#8 ++ c0, p0, t0]
        (rectangleTriangles ctx p0 (rawRectangleColor c0) (some t0) false 16 16) ∧
      drawsRectangle (.rect16TS ctx c0 p0 t0) s .sixteen true true false ctx [0x7E#8 ++ c0, p0, t0]
        (rectangleTriangles ctx p0 c0 (some t0) true 16 16) ∧
      drawsRectangle (.rect16TSR ctx c0 p0 t0) s .sixteen true true true ctx [0x7F#8 ++ c0, p0, t0]
        (rectangleTriangles ctx p0 (rawRectangleColor c0) (some t0) true 16 16)

/-- O40. A disconnected pad answers (0xFF, 0); an overrun resets the dialogue and is logged; an unknown Config command raises. -/
def Obligations.ExchangeDisconnectedOrOverrun : Prop :=
  ∀ (d : Byte) (s : State),
    (s.pad.connected = false → answers d s 0xFF false { s.pad with ack := false }) ∧
      (s.pad.connected = true → 7 < s.pad.seq →
        exec (.xchg d) s = .next { s with
          pad := { s.pad with seq := 0, ack := false, pendingSwitch := .none },
          result := .pad { resp := 0xFF, ack := false }, log := s.log ++ [.report (.unknownSequenceStep s.pad.seq)] }) ∧
      (s.pad.connected = true → s.pad.mode = .config → s.pad.seq = 2 → s.pad.cmd ∉ configCommands →
        raises (.xchg d) (.unrecognizedConfigCommand s.pad.cmd) s)

/-- O41. Normal mode: every row of the response table, steps 0 to 7, with the acknowledge and the state it writes. -/
def Obligations.NormalModeTable : Prop :=
  ∀ (d : Byte) (s : State), s.pad.connected = true → s.pad.mode = .normal →
    (s.pad.seq = 0 → answers d s (if s.pad.analog then 0x73 else 0x41) true (goesOn { s.pad with cmd := d })) ∧
      (s.pad.seq = 1 → answers d s 0x5A true (goesOn s.pad)) ∧
      (s.pad.seq = 2 → s.pad.cmd = 0x43 → s.pad.analog = false →
        answers d s 0xFF false { s.pad with seq := 0, ack := false, pendingSwitch := .none }) ∧
      (s.pad.seq = 2 → s.pad.cmd = 0x43 → s.pad.analog = true → d = 0x01 →
        answers d s (s.pad.buttons.extractLsb' 0 8) true (goesOn { s.pad with pendingSwitch := .toConfig })) ∧
      (s.pad.seq = 2 → ¬(s.pad.cmd = 0x43 ∧ (s.pad.analog = false ∨ d = 0x01)) →
        answers d s (s.pad.buttons.extractLsb' 0 8) true (goesOn s.pad)) ∧
      (s.pad.seq = 3 → s.pad.analog = false → answers d s (s.pad.buttons.extractLsb' 8 8) false (ends s.pad)) ∧
      (s.pad.seq = 3 → s.pad.analog = true → answers d s (s.pad.buttons.extractLsb' 8 8) true (goesOn s.pad)) ∧
      (s.pad.seq = 4 → answers d s s.pad.rightX true (goesOn s.pad)) ∧
      (s.pad.seq = 5 → answers d s s.pad.rightY true (goesOn s.pad)) ∧
      (s.pad.seq = 6 → answers d s s.pad.leftX true (goesOn s.pad)) ∧
      (s.pad.seq = 7 → answers d s s.pad.leftY false (ends s.pad))

/-- O42. Config mode: step 0 latches any command and answers 0xF3, step 1 answers 0x5A, whatever the analog flag. -/
def Obligations.ConfigModeHeader : Prop :=
  ∀ (d : Byte) (s : State), s.pad.connected = true → s.pad.mode = .config →
    (s.pad.seq = 0 → answers d s 0xF3 true (goesOn { s.pad with cmd := d })) ∧
      (s.pad.seq = 1 → answers d s 0x5A true (goesOn s.pad))

/-- O43. Config mode: every row of the response table for steps 2 to 7 of the eight defined commands, with the state it writes. -/
def Obligations.ConfigModeTable : Prop :=
  ∀ (d : Byte) (s : State) (go : Bool), s.pad.connected = true → s.pad.mode = .config → 2 ≤ s.pad.seq → s.pad.seq ≤ 7 →
    go = decide (s.pad.seq ≠ 7) →
    (s.pad.cmd = 0x42 →
        answers d s
          ([s.pad.buttons.extractLsb' 0 8, s.pad.buttons.extractLsb' 8 8, s.pad.rightX, s.pad.rightY, s.pad.leftX, s.pad.leftY].getD
            (s.pad.seq - 2) 0)
          go (nextPad s.pad)) ∧
      (s.pad.cmd = 0x43 →
        if s.pad.seq = 2 ∧ d = 0 then answers d s Config.padExitEcho go (nextPad { s.pad with pendingSwitch := .toNormal })
        else answers d s 0 go (nextPad s.pad)) ∧
      (s.pad.cmd = 0x44 →
        if s.pad.seq = 2 then answers d s 0 go (nextPad { s.pad with ledPending := d })
        else if s.pad.seq = 3 ∧ d = 2 then answers d s 0 go (nextPad { s.pad with led := s.pad.ledPending })
        else answers d s 0 go (nextPad s.pad)) ∧
      (s.pad.cmd = 0x45 → answers d s ([1, 2, s.pad.led, 2, 1, 0].getD (s.pad.seq - 2) 0) go (nextPad s.pad)) ∧
      (s.pad.cmd = 0x46 →
        if s.pad.seq = 2 then answers d s 0 go (nextPad { s.pad with sel := d })
        else
          answers d s
            ((if s.pad.sel = 0 then [0, 1, 2, 0, 0x0A] else if s.pad.sel = 1 then [0, 1, 1, 1, 0x14] else [0, 0, 0, 0, 0]).getD
              (s.pad.seq - 3) 0)
            go (nextPad s.pad)) ∧
      (s.pad.cmd = 0x47 → answers d s ([0, 0, 2, 0, 1, 0].getD (s.pad.seq - 2) 0) go (nextPad s.pad)) ∧
      (s.pad.cmd = 0x4C →
        if s.pad.seq = 2 then answers d s 0 go (nextPad { s.pad with sel := d })
        else
          answers d s
            (if s.pad.seq = 5 then (if s.pad.sel = 0 then 4 else if s.pad.sel = 1 then 7 else 0) else 0)
            go (nextPad s.pad)) ∧
      (s.pad.cmd = 0x4D →
        ∀ h : s.pad.seq - 2 < 6,
          answers d s s.pad.rumble[s.pad.seq - 2] go (nextPad { s.pad with rumble := s.pad.rumble.set (s.pad.seq - 2) d h }))

/-- O44. PAD.N.POLL on a connected pad in Normal mode: four replies when digital, eight when analog, the mode unchanged. -/
def Obligations.PollDialogue : Prop :=
  ∀ (b0 : Byte) (data : List Byte) (s : State), atRest .normal s.pad → b0 ≠ 0x43 →
    (s.pad.analog = false → 3 ≤ data.length →
        converses (.padNPoll b0 data) s
          (repliesOf [0x41, 0x5A, s.pad.buttons.extractLsb' 0 8, s.pad.buttons.extractLsb' 8 8])
          (afterDialogue b0 .normal s.pad)) ∧
      (s.pad.analog = true → 7 ≤ data.length →
        converses (.padNPoll b0 data) s
          (repliesOf [0x73, 0x5A, s.pad.buttons.extractLsb' 0 8, s.pad.buttons.extractLsb' 8 8, s.pad.rightX, s.pad.rightY,
            s.pad.leftX, s.pad.leftY])
          (afterDialogue b0 .normal s.pad))

/-- O45. PAD.N.CFG: a digital pad aborts after three bytes and stays in Normal mode; an analog one enters Config exactly for data byte 1 (Log 16). -/
def Obligations.ConfigEntryDialogue : Prop :=
  ∀ (d1 d2 : Byte) (rest : List Byte) (s : State), atRest .normal s.pad →
    (s.pad.analog = false →
        converses (.padNCfg (d1 :: d2 :: rest)) s (repliesOf [0x41, 0x5A, 0xFF]) (afterDialogue 0x43 .normal s.pad)) ∧
      (s.pad.analog = true → 5 ≤ rest.length →
        converses (.padNCfg (d1 :: d2 :: rest)) s
          (repliesOf [0x73, 0x5A, s.pad.buttons.extractLsb' 0 8, s.pad.buttons.extractLsb' 8 8, s.pad.rightX, s.pad.rightY,
            s.pad.leftX, s.pad.leftY])
          (afterDialogue 0x43 (if d2 = 0x01 then .config else .normal) s.pad))

/-- O46. PAD.C.42, PAD.C.45, PAD.C.47: eight replies, the registers read, the mode Config, nothing else written. -/
def Obligations.ConfigReadDialogues : Prop :=
  ∀ (d1 d2 d3 d4 d5 d6 d7 : Byte) (s : State), atRest .config s.pad →
    converses (.padC42 d1 d2 d3 d4 d5 d6 d7) s
        (repliesOf [0xF3, 0x5A, s.pad.buttons.extractLsb' 0 8, s.pad.buttons.extractLsb' 8 8, s.pad.rightX, s.pad.rightY,
          s.pad.leftX, s.pad.leftY])
        (afterDialogue 0x42 .config s.pad) ∧
      converses (.padC45 d1 d2 d3 d4 d5 d6 d7) s (repliesOf [0xF3, 0x5A, 1, 2, s.pad.led, 2, 1, 0])
        (afterDialogue 0x45 .config s.pad) ∧
      converses (.padC47 d1 d2 d3 d4 d5 d6 d7) s (repliesOf [0xF3, 0x5A, 0, 0, 2, 0, 1, 0]) (afterDialogue 0x47 .config s.pad)

/-- O47. PAD.C.43 leaves Config exactly for data byte 0; PAD.C.44 stages the LED value and commits it exactly for 0x02. -/
def Obligations.ConfigExitAndLedDialogues : Prop :=
  ∀ (d1 d2 d3 d4 d5 d6 d7 : Byte) (s : State), atRest .config s.pad →
    converses (.padC43 d1 d2 d3 d4 d5 d6 d7) s
        (repliesOf [0xF3, 0x5A, if d2 = 0 then Config.padExitEcho else 0, 0, 0, 0, 0, 0])
        (afterDialogue 0x43 (if d2 = 0 then .normal else .config) s.pad) ∧
      converses (.padC44 d1 d2 d3 d4 d5 d6 d7) s (repliesOf [0xF3, 0x5A, 0, 0, 0, 0, 0, 0])
        (afterDialogue 0x44 .config { s.pad with ledPending := d2, led := if d3 = 0x02 then d2 else s.pad.led })

/-- O48. PAD.C.46 and PAD.C.4C answer from the selector sent as third byte, which they latch. -/
def Obligations.ConfigSelectorDialogues : Prop :=
  ∀ (d1 d2 d3 d4 d5 d6 d7 : Byte) (s : State), atRest .config s.pad →
    converses (.padC46 d1 d2 d3 d4 d5 d6 d7) s
        (repliesOf ([0xF3, 0x5A, 0, 0] ++
          (if d2 = 0 then [1, 2, 0, 0x0A] else if d2 = 1 then [1, 1, 1, 0x14] else [0, 0, 0, 0])))
        (afterDialogue 0x46 .config { s.pad with sel := d2 }) ∧
      converses (.padC4C d1 d2 d3 d4 d5 d6 d7) s
        (repliesOf [0xF3, 0x5A, 0, 0, 0, if d2 = 0 then 4 else if d2 = 1 then 7 else 0, 0, 0])
        (afterDialogue 0x4C .config { s.pad with sel := d2 })

/-- O49. PAD.C.4D answers the six old rumble bytes in order and leaves the six bytes sent in their slots. -/
def Obligations.RumbleDialogueExchangesSlots : Prop :=
  ∀ (d1 d2 d3 d4 d5 d6 d7 : Byte) (s : State), atRest .config s.pad →
    converses (.padC4D d1 d2 d3 d4 d5 d6 d7) s
      (repliesOf [0xF3, 0x5A, s.pad.rumble[0], s.pad.rumble[1], s.pad.rumble[2], s.pad.rumble[3], s.pad.rumble[4], s.pad.rumble[5]])
      (afterDialogue 0x4D .config { s.pad with rumble := #v[d2, d3, d4, d5, d6, d7] })

/-- O50. Every dialogue with a disconnected pad is cut at its first byte with (0xFF, 0) and writes only the acknowledge flag. -/
def Obligations.DialoguesOnDisconnectedPad : Prop :=
  ∀ (i : Instr) (mode : PadMode) (bytes : List Byte) (s : State), encode i = .dialogue mode bytes → s.pad.connected = false →
    converses i s (repliesOf [0xFF]) { s.pad with ack := false }

/-- O51. POLL of a device name outside PAD_PROFILES reports the name and changes no state of the pad. -/
def Obligations.PollOfUnknownDeviceIgnored : Prop :=
  ∀ (snap : Snapshot) (s : State), Config.profileOf snap.name = none →
    exec (.poll snap) s = .next { s with result := .completed, log := s.log ++ [.unknownDevice snap.name] }

/-- O52. POLL completes for every snapshot inside the contract: buttons, axes, chord and analog flag as the profile says, or ignored. -/
def Obligations.PollUpdatesInputRegisters : Prop :=
  ∀ (snap : Snapshot) (s : State),
    ((∀ prof, Config.profileOf snap.name = some prof → coversAxes prof snap) →
      ∃ t, exec (.poll snap) s = .next t ∧ onlyPad s t ∧ t.result = .completed ∧
        match Config.profileOf snap.name with
        | none => t.pad = s.pad ∧ t.log = s.log ++ [.unknownDevice snap.name]
        | some prof =>
          t.log = s.log ∧
            (∀ i k, (i, k) ∈ prof.btn → t.pad.buttons.getLsbD k.val = decide (i ∉ snap.down)) ∧
            (∀ k : Fin 16, k ∉ prof.btn.map Prod.snd → t.pad.buttons.getLsbD k.val = s.pad.buttons.getLsbD k.val) ∧
            (∃ a, axisValue snap prof.iRX a ∧ isAxisByte a t.pad.rightX) ∧ (∃ a, axisValue snap prof.iRY a ∧ isAxisByte a t.pad.rightY) ∧
            (∃ a, axisValue snap prof.iLX a ∧ isAxisByte a t.pad.leftX) ∧ (∃ a, axisValue snap prof.iLY a ∧ isAxisByte a t.pad.leftY) ∧
            t.pad.chordPrev = decide (∀ i ∈ prof.chord, i ∈ snap.down) ∧
            t.pad.analog = (s.pad.analog ^^ (t.pad.chordPrev && !s.pad.chordPrev)) ∧
            t.pad = { s.pad with
              buttons := t.pad.buttons, rightX := t.pad.rightX, rightY := t.pad.rightY, leftX := t.pad.leftX, leftY := t.pad.leftY,
              analog := t.pad.analog, chordPrev := t.pad.chordPrev }) ∧
      (∀ prof, ¬coversAxes prof snap → pollWith (some prof) snap s = .refused .axisOutsideContract) ∧
      exec (.poll snap) s = pollWith (Config.profileOf snap.name) snap s

/-- O53. CONNECT c writes the connectivity flag and nothing else. -/
def Obligations.ConnectWritesConnectivityOnly : Prop :=
  ∀ (c : Bool) (s : State),
    exec (.connect c) s = .next { s with pad := { s.pad with connected := c }, result := .completed }

/-- O54. Decoding the encoding of any well-formed operation gives it back, every operand at every value. -/
def Obligations.DecodeOfEncodeIsIdentity : Prop :=
  ∀ i : Instr, i.wellFormed = true → decode (encode i) = .ok i

/-- O55. No operation on one unit writes a field of another, and its outcome depends on no field of another. -/
def Obligations.UnitsAreIndependent : Prop :=
  ∀ (i : Instr) (s t : State), exec i s = .next t →
    (unitOf i ≠ .dma → t.dma = s.dma) ∧ (unitOf i ≠ .gpa → t.gpa = s.gpa ∧ t.toRenderer = s.toRenderer) ∧
      (unitOf i ≠ .pad → t.pad = s.pad) ∧
      ∀ s' : State,
        (unitOf i = .dma → s'.dma = s.dma → ∃ t', exec i s' = .next t' ∧ t'.dma = t.dma ∧ t'.result = t.result) ∧
          (unitOf i = .gpa → s'.gpa = s.gpa → ∃ t', exec i s' = .next t' ∧ t'.gpa = t.gpa ∧ t'.result = t.result) ∧
          (unitOf i = .pad → s'.pad = s.pad → ∃ t', exec i s' = .next t' ∧ t'.pad = t.pad ∧ t'.result = t.result)

/-- O56. The reset state satisfies the invariant of the machine. -/
def Obligations.ResetHoldsInvariant : Prop :=
  State.inv State.reset

/-- O57. Every step keeps the invariant: inactive channels, legal block counts, a sound primitive, a pad dialogue within its steps. -/
def Obligations.StepKeepsInvariant : Prop :=
  ∀ s t : State, s.inv → step s = .next t → t.inv

/-- O58. The reset values: dpcr is the value of the source; dispatching is the choice of the model (Log 25); all others are decisions of the spec (Log 8 to 10). -/
def Obligations.ResetRegisterValues : Prop :=
  State.reset.dma.dpcr = 0x07654321 ∧
    (∀ n, State.reset.dma.chan n =
      { direction := false, step := false, chop := false, sync := .manual, chopDmaWin := 0, chopCpuWin := 0, enabled := false,
        trigger := false, readWrite := 0, base := 0, blockSize := 0x10000, blockCount := 0x10000 }) ∧
    State.reset.dma.cic = 0 ∧ State.reset.dma.busError = false ∧ State.reset.dma.mask = 0 ∧ State.reset.dma.masterEnable = false ∧
    State.reset.dma.flags = 0 ∧ State.reset.dma.engine = none ∧ State.reset.dma.inCallback = false ∧
    State.reset.dma.dispatching = none ∧
    State.reset.gpa = { prim := .none, buf := [] } ∧
    State.reset.pad =
      { connected := false, mode := .normal, cmd := 0, seq := 0, ack := false, buttons := 0xFFFF, pendingSwitch := .none,
        rightX := 0x80, rightY := 0x80, leftX := 0x80, leftY := 0x80, led := 0, ledPending := 0, analog := false,
        rumble := #v[0xFF, 0xFF, 0xFF, 0xFF, 0xFF, 0xFF], chordPrev := false, sel := 0 }

/-- O59. A step performs the next pending operation exactly as exec says, or binds the engine, or, with nothing pending, does nothing. -/
def Obligations.StepPerformsNextInput : Prop :=
  ∀ s : State,
    (∀ r i rest, s.pending = .operation r :: rest → decode r = .ok i → step s = exec i { s with pending := rest }) ∧
      (∀ agent rest, s.pending = .bindEngine agent :: rest →
        step s = .next { s with pending := rest, dma := { s.dma with engine := some agent } }) ∧
      (s.pending = [] → step s = .next s)

/-- O60. A few words written out from the encoding tables decode to the operations they stand for. -/
def Obligations.TableWordsDecode : Prop :=
  decode (.busWrite32 0x1F8010A8 0x01000401) = .ok (.wr32Ctrl 2 0x01000401) ∧
    decode (.busRead16 0x1F8010F6) = .ok .rd16DicrH ∧
    decode (.busRead8 0x1F8010E3) = .ok (.rd8Base 6 3) ∧
    decode (.primitive zeroCtx [0x200000FF, 0x00100010, 0x00100050, 0x00500010]) =
      .ok (.polyF3 { ditherEnable := false, globalBlend := 0 } 0x0000FF 0x00100010 0x00100050 0x00500010) ∧
    decode (.primitive zeroCtx [0x7A204060, 0x07F807F8]) = .ok (.rect16S zeroCtx 0x204060 0x07F807F8) ∧
    decode (.dialogue .config [0x44, 0, 1, 2, 0, 0, 0, 0]) = .ok (.padC44 0 1 2 0 0 0 0)
end

