-- ==== Sys2Proof/Laws/Decode.lean ====
section
/-! SUPPORT. What the address decode answers at the address of every register, and how the fields of a command word are read back. -/

namespace Sys2Proof

theorem decodeWordAddr_base (n : Chan) : decodeWordAddr (channelAddr n 0x0#32) = some (.base n) := by revert n; decide
theorem decodeWordAddr_block (n : Chan) : decodeWordAddr (channelAddr n 0x4#32) = some (.block n) := by revert n; decide
theorem decodeWordAddr_ctrl (n : Chan) : decodeWordAddr (channelAddr n 0x8#32) = some (.ctrl n) := by revert n; decide

theorem decodeByteAddr_base (n : Chan) (k : BitVec 2) : decodeByteAddr (channelByteAddr n 0x0#32 k) = some (.base n, k) := by
  revert n k; decide
theorem decodeByteAddr_block (n : Chan) (k : BitVec 2) : decodeByteAddr (channelByteAddr n 0x4#32 k) = some (.block n, k) := by
  revert n k; decide
theorem decodeByteAddr_ctrl (n : Chan) (k : BitVec 2) : decodeByteAddr (channelByteAddr n 0x8#32 k) = some (.ctrl n, k) := by
  revert n k; decide

/-- No register of a channel lies in the span of DICR or at an address where a half of DICR is. -/
theorem channelAddr_ne (n : Chan) (off : Word) (h : off ∈ [0x0#32, 0x4#32, 0x8#32]) :
    channelAddr n off ≠ 0x1F8010F4#32 ∧ channelAddr n off ≠ 0x1F8010F6#32 := by
  simp only [List.mem_cons, List.not_mem_nil, or_false] at h
  rcases h with rfl | rfl | rfl <;> revert n <;> decide

theorem channelByteAddr_ne (n : Chan) (k : BitVec 2) (off : Word) (h : off ∈ [0x0#32, 0x4#32, 0x8#32]) :
    channelByteAddr n off k ≠ 0x1F8010F4#32 ∧ channelByteAddr n off k ≠ 0x1F8010F5#32 ∧
      channelByteAddr n off k ≠ 0x1F8010F6#32 ∧ channelByteAddr n off k ≠ 0x1F8010F7#32 := by
  simp only [List.mem_cons, List.not_mem_nil, or_false] at h
  rcases h with rfl | rfl | rfl <;> revert n k <;> decide

/-! ## Command words -/

theorem cmdWord_bit (op : Byte) (c0 : BitVec 24) (i : Nat) :
    (cmdWord op c0).getLsbD i = if i < 24 then c0.getLsbD i else op.getLsbD (i - 24) :=
  BitVec.getLsbD_append

theorem cmdWord_color (op : Byte) (c0 : BitVec 24) : (cmdWord op c0).extractLsb' 0 24 = c0 := by
  apply BitVec.eq_of_getLsbD_eq
  intro i hi
  rw [BitVec.getLsbD_extractLsb', cmdWord_bit]
  simp [hi]

theorem cmdWord_class (op : Byte) (c0 : BitVec 24) : (cmdWord op c0).extractLsb' 29 3 = op.extractLsb' 5 3 := by
  apply BitVec.eq_of_getLsbD_eq
  intro i hi
  rw [BitVec.getLsbD_extractLsb', BitVec.getLsbD_extractLsb', cmdWord_bit]
  have h : 29 + i - 24 = 5 + i := by omega
  have h2 : ¬29 + i < 24 := by omega
  simp [hi, h, h2]

theorem cmdWord_size (op : Byte) (c0 : BitVec 24) : (cmdWord op c0).extractLsb' 27 2 = op.extractLsb' 3 2 := by
  apply BitVec.eq_of_getLsbD_eq
  intro i hi
  rw [BitVec.getLsbD_extractLsb', BitVec.getLsbD_extractLsb', cmdWord_bit]
  have h : 27 + i - 24 = 3 + i := by omega
  have h2 : ¬27 + i < 24 := by omega
  simp [hi, h, h2]

theorem isPolygonWord_cmdWord (op : Byte) (c0 : BitVec 24) : isPolygonWord (cmdWord op c0) = (op.extractLsb' 5 3 == 1#3) := by
  simp only [isPolygonWord, cmdWord_class]

theorem isRectangleWord_cmdWord (op : Byte) (c0 : BitVec 24) : isRectangleWord (cmdWord op c0) = (op.extractLsb' 5 3 == 3#3) := by
  simp only [isRectangleWord, cmdWord_class]

end Sys2Proof
end

