-- ==== Sys2Proof/Laws/State.lean ====
section
/-! SUPPORT. One lemma per field per update, true by unfolding the update once, so that no later proof unfolds a record update. -/

namespace Sys2Proof.Machine

/-! ## State updates -/

@[simp] theorem State.reply_dma (r : Result) (s : State) : (s.reply r).dma = s.dma := rfl
@[simp] theorem State.reply_gpa (r : Result) (s : State) : (s.reply r).gpa = s.gpa := rfl
@[simp] theorem State.reply_pad (r : Result) (s : State) : (s.reply r).pad = s.pad := rfl
@[simp] theorem State.reply_pending (r : Result) (s : State) : (s.reply r).pending = s.pending := rfl
@[simp] theorem State.reply_result (r : Result) (s : State) : (s.reply r).result = r := rfl
@[simp] theorem State.reply_toRenderer (r : Result) (s : State) : (s.reply r).toRenderer = s.toRenderer := rfl
@[simp] theorem State.reply_engineCalls (r : Result) (s : State) : (s.reply r).engineCalls = s.engineCalls := rfl
@[simp] theorem State.reply_log (r : Result) (s : State) : (s.reply r).log = s.log := rfl

@[simp] theorem State.raise_dma (e : ErrorKind) (s : State) : (s.raise e).dma = s.dma := rfl
@[simp] theorem State.raise_gpa (e : ErrorKind) (s : State) : (s.raise e).gpa = s.gpa := rfl
@[simp] theorem State.raise_pad (e : ErrorKind) (s : State) : (s.raise e).pad = s.pad := rfl
@[simp] theorem State.raise_pending (e : ErrorKind) (s : State) : (s.raise e).pending = s.pending := rfl
@[simp] theorem State.raise_result (e : ErrorKind) (s : State) : (s.raise e).result = .error e := rfl
@[simp] theorem State.raise_toRenderer (e : ErrorKind) (s : State) : (s.raise e).toRenderer = s.toRenderer := rfl
@[simp] theorem State.raise_engineCalls (e : ErrorKind) (s : State) : (s.raise e).engineCalls = s.engineCalls := rfl
@[simp] theorem State.raise_log (e : ErrorKind) (s : State) : (s.raise e).log = s.log := rfl

@[simp] theorem State.setDma_dma (d : Dma) (s : State) : (s.setDma d).dma = d := rfl
@[simp] theorem State.setDma_gpa (d : Dma) (s : State) : (s.setDma d).gpa = s.gpa := rfl
@[simp] theorem State.setDma_pad (d : Dma) (s : State) : (s.setDma d).pad = s.pad := rfl
@[simp] theorem State.setDma_pending (d : Dma) (s : State) : (s.setDma d).pending = s.pending := rfl
@[simp] theorem State.setDma_result (d : Dma) (s : State) : (s.setDma d).result = .completed := rfl
@[simp] theorem State.setDma_toRenderer (d : Dma) (s : State) : (s.setDma d).toRenderer = s.toRenderer := rfl
@[simp] theorem State.setDma_engineCalls (d : Dma) (s : State) : (s.setDma d).engineCalls = s.engineCalls := rfl
@[simp] theorem State.setDma_log (d : Dma) (s : State) : (s.setDma d).log = s.log := rfl

@[simp] theorem State.setGpa_dma (g : Gpa) (s : State) : (s.setGpa g).dma = s.dma := rfl
@[simp] theorem State.setGpa_gpa (g : Gpa) (s : State) : (s.setGpa g).gpa = g := rfl
@[simp] theorem State.setGpa_pad (g : Gpa) (s : State) : (s.setGpa g).pad = s.pad := rfl
@[simp] theorem State.setGpa_pending (g : Gpa) (s : State) : (s.setGpa g).pending = s.pending := rfl
@[simp] theorem State.setGpa_result (g : Gpa) (s : State) : (s.setGpa g).result = .completed := rfl
@[simp] theorem State.setGpa_toRenderer (g : Gpa) (s : State) : (s.setGpa g).toRenderer = s.toRenderer := rfl
@[simp] theorem State.setGpa_engineCalls (g : Gpa) (s : State) : (s.setGpa g).engineCalls = s.engineCalls := rfl
@[simp] theorem State.setGpa_log (g : Gpa) (s : State) : (s.setGpa g).log = s.log := rfl

@[simp] theorem State.setPad_dma (p : Pad) (r : Result) (s : State) : (s.setPad p r).dma = s.dma := rfl
@[simp] theorem State.setPad_gpa (p : Pad) (r : Result) (s : State) : (s.setPad p r).gpa = s.gpa := rfl
@[simp] theorem State.setPad_pad (p : Pad) (r : Result) (s : State) : (s.setPad p r).pad = p := rfl
@[simp] theorem State.setPad_pending (p : Pad) (r : Result) (s : State) : (s.setPad p r).pending = s.pending := rfl
@[simp] theorem State.setPad_result (p : Pad) (r : Result) (s : State) : (s.setPad p r).result = r := rfl
@[simp] theorem State.setPad_toRenderer (p : Pad) (r : Result) (s : State) : (s.setPad p r).toRenderer = s.toRenderer := rfl
@[simp] theorem State.setPad_engineCalls (p : Pad) (r : Result) (s : State) : (s.setPad p r).engineCalls = s.engineCalls := rfl
@[simp] theorem State.setPad_log (p : Pad) (r : Result) (s : State) : (s.setPad p r).log = s.log := rfl

@[simp] theorem State.emit_dma (g : Gpa) (ts : List Triangle) (s : State) : (s.emit g ts).dma = s.dma := rfl
@[simp] theorem State.emit_gpa (g : Gpa) (ts : List Triangle) (s : State) : (s.emit g ts).gpa = g := rfl
@[simp] theorem State.emit_pad (g : Gpa) (ts : List Triangle) (s : State) : (s.emit g ts).pad = s.pad := rfl
@[simp] theorem State.emit_pending (g : Gpa) (ts : List Triangle) (s : State) : (s.emit g ts).pending = s.pending := rfl
@[simp] theorem State.emit_result (g : Gpa) (ts : List Triangle) (s : State) : (s.emit g ts).result = .completed := rfl
@[simp] theorem State.emit_toRenderer (g : Gpa) (ts : List Triangle) (s : State) : (s.emit g ts).toRenderer = s.toRenderer ++ ts := rfl
@[simp] theorem State.emit_engineCalls (g : Gpa) (ts : List Triangle) (s : State) : (s.emit g ts).engineCalls = s.engineCalls := rfl
@[simp] theorem State.emit_log (g : Gpa) (ts : List Triangle) (s : State) : (s.emit g ts).log = s.log := rfl

@[simp] theorem bindEngine_gpa (a : Nat) (s : State) : (bindEngine a s).gpa = s.gpa := rfl
@[simp] theorem bindEngine_pad (a : Nat) (s : State) : (bindEngine a s).pad = s.pad := rfl
@[simp] theorem bindEngine_pending (a : Nat) (s : State) : (bindEngine a s).pending = s.pending := rfl
@[simp] theorem bindEngine_result (a : Nat) (s : State) : (bindEngine a s).result = s.result := rfl
@[simp] theorem bindEngine_toRenderer (a : Nat) (s : State) : (bindEngine a s).toRenderer = s.toRenderer := rfl
@[simp] theorem bindEngine_engineCalls (a : Nat) (s : State) : (bindEngine a s).engineCalls = s.engineCalls := rfl
@[simp] theorem bindEngine_log (a : Nat) (s : State) : (bindEngine a s).log = s.log := rfl

@[simp] theorem withFetchWord_dma (s : State) (nbits w : Nat) : (s.withFetchWord nbits w).dma = s.dma := rfl
@[simp] theorem withFetchWord_gpa (s : State) (nbits w : Nat) : (s.withFetchWord nbits w).gpa = s.gpa := rfl
@[simp] theorem withFetchWord_pad (s : State) (nbits w : Nat) : (s.withFetchWord nbits w).pad = s.pad := rfl
@[simp] theorem withFetchWord_pending (s : State) (nbits w : Nat) : (s.withFetchWord nbits w).pending = .operation (tableRequest nbits w) :: s.pending := rfl
@[simp] theorem withFetchWord_result (s : State) (nbits w : Nat) : (s.withFetchWord nbits w).result = s.result := rfl
@[simp] theorem withFetchWord_toRenderer (s : State) (nbits w : Nat) : (s.withFetchWord nbits w).toRenderer = s.toRenderer := rfl
@[simp] theorem withFetchWord_engineCalls (s : State) (nbits w : Nat) : (s.withFetchWord nbits w).engineCalls = s.engineCalls := rfl
@[simp] theorem withFetchWord_log (s : State) (nbits w : Nat) : (s.withFetchWord nbits w).log = s.log := rfl

/-! ## DMA updates -/

@[simp] theorem Dma.setChan_dpcr (d : Dma) (n : Chan) (c : Channel) : (d.setChan n c).dpcr = d.dpcr := rfl
@[simp] theorem Dma.setChan_cic (d : Dma) (n : Chan) (c : Channel) : (d.setChan n c).cic = d.cic := rfl
@[simp] theorem Dma.setChan_busError (d : Dma) (n : Chan) (c : Channel) : (d.setChan n c).busError = d.busError := rfl
@[simp] theorem Dma.setChan_mask (d : Dma) (n : Chan) (c : Channel) : (d.setChan n c).mask = d.mask := rfl
@[simp] theorem Dma.setChan_masterEnable (d : Dma) (n : Chan) (c : Channel) : (d.setChan n c).masterEnable = d.masterEnable := rfl
@[simp] theorem Dma.setChan_flags (d : Dma) (n : Chan) (c : Channel) : (d.setChan n c).flags = d.flags := rfl
@[simp] theorem Dma.setChan_engine (d : Dma) (n : Chan) (c : Channel) : (d.setChan n c).engine = d.engine := rfl
@[simp] theorem Dma.setChan_inCallback (d : Dma) (n : Chan) (c : Channel) : (d.setChan n c).inCallback = d.inCallback := rfl
@[simp] theorem Dma.setChan_dispatching (d : Dma) (n : Chan) (c : Channel) : (d.setChan n c).dispatching = d.dispatching := rfl

@[simp] theorem Dma.done_dpcr (d : Dma) (n : Chan) : (d.done n).dpcr = d.dpcr := rfl
@[simp] theorem Dma.done_cic (d : Dma) (n : Chan) : (d.done n).cic = d.cic := rfl
@[simp] theorem Dma.done_busError (d : Dma) (n : Chan) : (d.done n).busError = d.busError := rfl
@[simp] theorem Dma.done_mask (d : Dma) (n : Chan) : (d.done n).mask = d.mask := rfl
@[simp] theorem Dma.done_masterEnable (d : Dma) (n : Chan) : (d.done n).masterEnable = d.masterEnable := rfl
@[simp] theorem Dma.done_flags (d : Dma) (n : Chan) : (d.done n).flags = d.flags := rfl
@[simp] theorem Dma.done_engine (d : Dma) (n : Chan) : (d.done n).engine = d.engine := rfl
@[simp] theorem Dma.done_inCallback (d : Dma) (n : Chan) : (d.done n).inCallback = d.inCallback := rfl
@[simp] theorem Dma.done_dispatching (d : Dma) (n : Chan) : (d.done n).dispatching = d.dispatching := rfl

@[simp] theorem Dma.setIrq_ch (d : Dma) (n : Chan) : (d.setIrq n).ch = d.ch := rfl
@[simp] theorem Dma.setIrq_dpcr (d : Dma) (n : Chan) : (d.setIrq n).dpcr = d.dpcr := rfl
@[simp] theorem Dma.setIrq_cic (d : Dma) (n : Chan) : (d.setIrq n).cic = d.cic := rfl
@[simp] theorem Dma.setIrq_busError (d : Dma) (n : Chan) : (d.setIrq n).busError = d.busError := rfl
@[simp] theorem Dma.setIrq_mask (d : Dma) (n : Chan) : (d.setIrq n).mask = d.mask := rfl
@[simp] theorem Dma.setIrq_masterEnable (d : Dma) (n : Chan) : (d.setIrq n).masterEnable = d.masterEnable := rfl
@[simp] theorem Dma.setIrq_flags (d : Dma) (n : Chan) : (d.setIrq n).flags = setFlag d.flags n := rfl
@[simp] theorem Dma.setIrq_engine (d : Dma) (n : Chan) : (d.setIrq n).engine = d.engine := rfl
@[simp] theorem Dma.setIrq_inCallback (d : Dma) (n : Chan) : (d.setIrq n).inCallback = d.inCallback := rfl
@[simp] theorem Dma.setIrq_dispatching (d : Dma) (n : Chan) : (d.setIrq n).dispatching = d.dispatching := rfl

@[simp] theorem Dma.startDispatch_ch (d : Dma) (n : Chan) : (d.startDispatch n).ch = d.ch := rfl
@[simp] theorem Dma.startDispatch_dpcr (d : Dma) (n : Chan) : (d.startDispatch n).dpcr = d.dpcr := rfl
@[simp] theorem Dma.startDispatch_cic (d : Dma) (n : Chan) : (d.startDispatch n).cic = d.cic := rfl
@[simp] theorem Dma.startDispatch_busError (d : Dma) (n : Chan) : (d.startDispatch n).busError = d.busError := rfl
@[simp] theorem Dma.startDispatch_mask (d : Dma) (n : Chan) : (d.startDispatch n).mask = d.mask := rfl
@[simp] theorem Dma.startDispatch_masterEnable (d : Dma) (n : Chan) : (d.startDispatch n).masterEnable = d.masterEnable := rfl
@[simp] theorem Dma.startDispatch_flags (d : Dma) (n : Chan) : (d.startDispatch n).flags = d.flags := rfl
@[simp] theorem Dma.startDispatch_engine (d : Dma) (n : Chan) : (d.startDispatch n).engine = d.engine := rfl
@[simp] theorem Dma.startDispatch_inCallback (d : Dma) (n : Chan) : (d.startDispatch n).inCallback = d.inCallback := rfl
@[simp] theorem Dma.startDispatch_dispatching (d : Dma) (n : Chan) : (d.startDispatch n).dispatching = some n := rfl
@[simp] theorem Dma.startDispatch_chan (d : Dma) (n m : Chan) : (d.startDispatch n).chan m = d.chan m := rfl

@[simp] theorem Dma.enterCallback_ch (d : Dma) : (d.enterCallback).ch = d.ch := rfl
@[simp] theorem Dma.enterCallback_dpcr (d : Dma) : (d.enterCallback).dpcr = d.dpcr := rfl
@[simp] theorem Dma.enterCallback_cic (d : Dma) : (d.enterCallback).cic = d.cic := rfl
@[simp] theorem Dma.enterCallback_busError (d : Dma) : (d.enterCallback).busError = d.busError := rfl
@[simp] theorem Dma.enterCallback_mask (d : Dma) : (d.enterCallback).mask = d.mask := rfl
@[simp] theorem Dma.enterCallback_masterEnable (d : Dma) : (d.enterCallback).masterEnable = d.masterEnable := rfl
@[simp] theorem Dma.enterCallback_flags (d : Dma) : (d.enterCallback).flags = d.flags := rfl
@[simp] theorem Dma.enterCallback_engine (d : Dma) : (d.enterCallback).engine = d.engine := rfl
@[simp] theorem Dma.enterCallback_inCallback (d : Dma) : (d.enterCallback).inCallback = true := rfl
@[simp] theorem Dma.enterCallback_dispatching (d : Dma) : (d.enterCallback).dispatching = d.dispatching := rfl
@[simp] theorem Dma.enterCallback_chan (d : Dma) (m : Chan) : (d.enterCallback).chan m = d.chan m := rfl

@[simp] theorem Dma.leaveCallback_ch (d : Dma) : (d.leaveCallback).ch = d.ch := rfl
@[simp] theorem Dma.leaveCallback_dpcr (d : Dma) : (d.leaveCallback).dpcr = d.dpcr := rfl
@[simp] theorem Dma.leaveCallback_cic (d : Dma) : (d.leaveCallback).cic = d.cic := rfl
@[simp] theorem Dma.leaveCallback_busError (d : Dma) : (d.leaveCallback).busError = d.busError := rfl
@[simp] theorem Dma.leaveCallback_mask (d : Dma) : (d.leaveCallback).mask = d.mask := rfl
@[simp] theorem Dma.leaveCallback_masterEnable (d : Dma) : (d.leaveCallback).masterEnable = d.masterEnable := rfl
@[simp] theorem Dma.leaveCallback_flags (d : Dma) : (d.leaveCallback).flags = d.flags := rfl
@[simp] theorem Dma.leaveCallback_engine (d : Dma) : (d.leaveCallback).engine = d.engine := rfl
@[simp] theorem Dma.leaveCallback_inCallback (d : Dma) : (d.leaveCallback).inCallback = false := rfl
@[simp] theorem Dma.leaveCallback_dispatching (d : Dma) : (d.leaveCallback).dispatching = none := rfl
@[simp] theorem Dma.leaveCallback_chan (d : Dma) (m : Chan) : (d.leaveCallback).chan m = d.chan m := rfl

@[simp] theorem loadDicr_ch (v : Word) (d : Dma) : (loadDicr v d).ch = d.ch := rfl
@[simp] theorem loadDicr_dpcr (v : Word) (d : Dma) : (loadDicr v d).dpcr = d.dpcr := rfl
@[simp] theorem loadDicr_cic (v : Word) (d : Dma) : (loadDicr v d).cic = v.extractLsb' 0 7 := rfl
@[simp] theorem loadDicr_busError (v : Word) (d : Dma) : (loadDicr v d).busError = v.getLsbD 15 := rfl
@[simp] theorem loadDicr_mask (v : Word) (d : Dma) : (loadDicr v d).mask = v.extractLsb' 16 7 := rfl
@[simp] theorem loadDicr_masterEnable (v : Word) (d : Dma) : (loadDicr v d).masterEnable = v.getLsbD 23 := rfl
@[simp] theorem loadDicr_flags (v : Word) (d : Dma) : (loadDicr v d).flags = clearFlags d.flags (v.extractLsb' 24 7) := rfl
@[simp] theorem loadDicr_engine (v : Word) (d : Dma) : (loadDicr v d).engine = d.engine := rfl
@[simp] theorem loadDicr_inCallback (v : Word) (d : Dma) : (loadDicr v d).inCallback = d.inCallback := rfl
@[simp] theorem loadDicr_dispatching (v : Word) (d : Dma) : (loadDicr v d).dispatching = d.dispatching := rfl

@[simp] theorem loadDicrL_ch (h : Half) (d : Dma) : (loadDicrL h d).ch = d.ch := rfl
@[simp] theorem loadDicrL_dpcr (h : Half) (d : Dma) : (loadDicrL h d).dpcr = d.dpcr := rfl
@[simp] theorem loadDicrL_cic (h : Half) (d : Dma) : (loadDicrL h d).cic = h.extractLsb' 0 7 := rfl
@[simp] theorem loadDicrL_busError (h : Half) (d : Dma) : (loadDicrL h d).busError = h.getLsbD 15 := rfl
@[simp] theorem loadDicrL_mask (h : Half) (d : Dma) : (loadDicrL h d).mask = d.mask := rfl
@[simp] theorem loadDicrL_masterEnable (h : Half) (d : Dma) : (loadDicrL h d).masterEnable = d.masterEnable := rfl
@[simp] theorem loadDicrL_flags (h : Half) (d : Dma) : (loadDicrL h d).flags = d.flags := rfl
@[simp] theorem loadDicrL_engine (h : Half) (d : Dma) : (loadDicrL h d).engine = d.engine := rfl
@[simp] theorem loadDicrL_inCallback (h : Half) (d : Dma) : (loadDicrL h d).inCallback = d.inCallback := rfl
@[simp] theorem loadDicrL_dispatching (h : Half) (d : Dma) : (loadDicrL h d).dispatching = d.dispatching := rfl

@[simp] theorem loadDicrH_ch (h : Half) (d : Dma) : (loadDicrH h d).ch = d.ch := rfl
@[simp] theorem loadDicrH_dpcr (h : Half) (d : Dma) : (loadDicrH h d).dpcr = d.dpcr := rfl
@[simp] theorem loadDicrH_cic (h : Half) (d : Dma) : (loadDicrH h d).cic = d.cic := rfl
@[simp] theorem loadDicrH_busError (h : Half) (d : Dma) : (loadDicrH h d).busError = d.busError := rfl
@[simp] theorem loadDicrH_mask (h : Half) (d : Dma) : (loadDicrH h d).mask = h.extractLsb' 0 7 := rfl
@[simp] theorem loadDicrH_masterEnable (h : Half) (d : Dma) : (loadDicrH h d).masterEnable = h.getLsbD 7 := rfl
@[simp] theorem loadDicrH_flags (h : Half) (d : Dma) : (loadDicrH h d).flags = clearFlags d.flags (h.extractLsb' 8 7) := rfl
@[simp] theorem loadDicrH_engine (h : Half) (d : Dma) : (loadDicrH h d).engine = d.engine := rfl
@[simp] theorem loadDicrH_inCallback (h : Half) (d : Dma) : (loadDicrH h d).inCallback = d.inCallback := rfl
@[simp] theorem loadDicrH_dispatching (h : Half) (d : Dma) : (loadDicrH h d).dispatching = d.dispatching := rfl

@[simp] theorem loadDicr0_ch (b : Byte) (d : Dma) : (loadDicr0 b d).ch = d.ch := rfl
@[simp] theorem loadDicr0_dpcr (b : Byte) (d : Dma) : (loadDicr0 b d).dpcr = d.dpcr := rfl
@[simp] theorem loadDicr0_cic (b : Byte) (d : Dma) : (loadDicr0 b d).cic = b.extractLsb' 0 7 := rfl
@[simp] theorem loadDicr0_busError (b : Byte) (d : Dma) : (loadDicr0 b d).busError = d.busError := rfl
@[simp] theorem loadDicr0_mask (b : Byte) (d : Dma) : (loadDicr0 b d).mask = d.mask := rfl
@[simp] theorem loadDicr0_masterEnable (b : Byte) (d : Dma) : (loadDicr0 b d).masterEnable = d.masterEnable := rfl
@[simp] theorem loadDicr0_flags (b : Byte) (d : Dma) : (loadDicr0 b d).flags = d.flags := rfl
@[simp] theorem loadDicr0_engine (b : Byte) (d : Dma) : (loadDicr0 b d).engine = d.engine := rfl
@[simp] theorem loadDicr0_inCallback (b : Byte) (d : Dma) : (loadDicr0 b d).inCallback = d.inCallback := rfl
@[simp] theorem loadDicr0_dispatching (b : Byte) (d : Dma) : (loadDicr0 b d).dispatching = d.dispatching := rfl

@[simp] theorem loadDicr1_ch (b : Byte) (d : Dma) : (loadDicr1 b d).ch = d.ch := rfl
@[simp] theorem loadDicr1_dpcr (b : Byte) (d : Dma) : (loadDicr1 b d).dpcr = d.dpcr := rfl
@[simp] theorem loadDicr1_cic (b : Byte) (d : Dma) : (loadDicr1 b d).cic = d.cic := rfl
@[simp] theorem loadDicr1_busError (b : Byte) (d : Dma) : (loadDicr1 b d).busError = b.getLsbD 7 := rfl
@[simp] theorem loadDicr1_mask (b : Byte) (d : Dma) : (loadDicr1 b d).mask = d.mask := rfl
@[simp] theorem loadDicr1_masterEnable (b : Byte) (d : Dma) : (loadDicr1 b d).masterEnable = d.masterEnable := rfl
@[simp] theorem loadDicr1_flags (b : Byte) (d : Dma) : (loadDicr1 b d).flags = d.flags := rfl
@[simp] theorem loadDicr1_engine (b : Byte) (d : Dma) : (loadDicr1 b d).engine = d.engine := rfl
@[simp] theorem loadDicr1_inCallback (b : Byte) (d : Dma) : (loadDicr1 b d).inCallback = d.inCallback := rfl
@[simp] theorem loadDicr1_dispatching (b : Byte) (d : Dma) : (loadDicr1 b d).dispatching = d.dispatching := rfl

@[simp] theorem loadDicr2_ch (b : Byte) (d : Dma) : (loadDicr2 b d).ch = d.ch := rfl
@[simp] theorem loadDicr2_dpcr (b : Byte) (d : Dma) : (loadDicr2 b d).dpcr = d.dpcr := rfl
@[simp] theorem loadDicr2_cic (b : Byte) (d : Dma) : (loadDicr2 b d).cic = d.cic := rfl
@[simp] theorem loadDicr2_busError (b : Byte) (d : Dma) : (loadDicr2 b d).busError = d.busError := rfl
@[simp] theorem loadDicr2_mask (b : Byte) (d : Dma) : (loadDicr2 b d).mask = b.extractLsb' 0 7 := rfl
@[simp] theorem loadDicr2_masterEnable (b : Byte) (d : Dma) : (loadDicr2 b d).masterEnable = b.getLsbD 7 := rfl
@[simp] theorem loadDicr2_flags (b : Byte) (d : Dma) : (loadDicr2 b d).flags = d.flags := rfl
@[simp] theorem loadDicr2_engine (b : Byte) (d : Dma) : (loadDicr2 b d).engine = d.engine := rfl
@[simp] theorem loadDicr2_inCallback (b : Byte) (d : Dma) : (loadDicr2 b d).inCallback = d.inCallback := rfl
@[simp] theorem loadDicr2_dispatching (b : Byte) (d : Dma) : (loadDicr2 b d).dispatching = d.dispatching := rfl

@[simp] theorem loadDicr3_ch (b : Byte) (d : Dma) : (loadDicr3 b d).ch = d.ch := rfl
@[simp] theorem loadDicr3_dpcr (b : Byte) (d : Dma) : (loadDicr3 b d).dpcr = d.dpcr := rfl
@[simp] theorem loadDicr3_cic (b : Byte) (d : Dma) : (loadDicr3 b d).cic = d.cic := rfl
@[simp] theorem loadDicr3_busError (b : Byte) (d : Dma) : (loadDicr3 b d).busError = d.busError := rfl
@[simp] theorem loadDicr3_mask (b : Byte) (d : Dma) : (loadDicr3 b d).mask = d.mask := rfl
@[simp] theorem loadDicr3_masterEnable (b : Byte) (d : Dma) : (loadDicr3 b d).masterEnable = d.masterEnable := rfl
@[simp] theorem loadDicr3_flags (b : Byte) (d : Dma) : (loadDicr3 b d).flags = clearFlags d.flags (b.extractLsb' 0 7) := rfl
@[simp] theorem loadDicr3_engine (b : Byte) (d : Dma) : (loadDicr3 b d).engine = d.engine := rfl
@[simp] theorem loadDicr3_inCallback (b : Byte) (d : Dma) : (loadDicr3 b d).inCallback = d.inCallback := rfl
@[simp] theorem loadDicr3_dispatching (b : Byte) (d : Dma) : (loadDicr3 b d).dispatching = d.dispatching := rfl

/-- The other channels and the addressed one after a replacement (40 R140). -/
@[simp] theorem Dma.chan_setChan (d : Dma) (n m : Chan) (c : Channel) :
    (d.setChan n c).chan m = if m = n then c else d.chan m := by
  by_cases h : m = n
  · subst h
    simp [Dma.chan, Dma.setChan]
  · have hv : n.val ≠ m.val := fun e => h (Fin.ext e.symm)
    simp [Dma.chan, Dma.setChan, h, Vector.getElem_set_ne, hv]

@[simp] theorem Dma.chan_done (d : Dma) (n m : Chan) :
    (d.done n).chan m = if m = n then { d.chan n with enabled := false, trigger := false } else d.chan m := by
  simp [Dma.done]

@[simp] theorem Dma.chan_setIrq (d : Dma) (n m : Chan) : (d.setIrq n).chan m = d.chan m := rfl

@[simp] theorem loadDicr_chan (v : Word) (d : Dma) (n : Chan) : (loadDicr v d).chan n = d.chan n := rfl
@[simp] theorem loadDicrL_chan (h : Half) (d : Dma) (n : Chan) : (loadDicrL h d).chan n = d.chan n := rfl
@[simp] theorem loadDicrH_chan (h : Half) (d : Dma) (n : Chan) : (loadDicrH h d).chan n = d.chan n := rfl
@[simp] theorem loadDicr0_chan (b : Byte) (d : Dma) (n : Chan) : (loadDicr0 b d).chan n = d.chan n := rfl
@[simp] theorem loadDicr1_chan (b : Byte) (d : Dma) (n : Chan) : (loadDicr1 b d).chan n = d.chan n := rfl
@[simp] theorem loadDicr2_chan (b : Byte) (d : Dma) (n : Chan) : (loadDicr2 b d).chan n = d.chan n := rfl
@[simp] theorem loadDicr3_chan (b : Byte) (d : Dma) (n : Chan) : (loadDicr3 b d).chan n = d.chan n := rfl

/-- Two DMA states with the same channels and the same global fields are the same. -/
theorem Dma.ext_of_chan (d e : Dma) (hch : ∀ n, d.chan n = e.chan n) (h1 : d.dpcr = e.dpcr) (h2 : d.cic = e.cic)
    (h3 : d.busError = e.busError) (h4 : d.mask = e.mask) (h5 : d.masterEnable = e.masterEnable) (h6 : d.flags = e.flags)
    (h7 : d.engine = e.engine) (h8 : d.inCallback = e.inCallback) (h9 : d.dispatching = e.dispatching) : d = e := by
  obtain ⟨dch, _, _, _, _, _, _, _, _, _⟩ := d
  obtain ⟨ech, _, _, _, _, _, _, _, _, _⟩ := e
  have : dch = ech := by
    apply Vector.ext
    intro j hj
    exact hch ⟨j, hj⟩
  simp_all

/-! ## Channel updates -/

@[simp] theorem loadBase_direction (v : Word) (c : Channel) : (loadBase v c).direction = c.direction := rfl
@[simp] theorem loadBase_step (v : Word) (c : Channel) : (loadBase v c).step = c.step := rfl
@[simp] theorem loadBase_chop (v : Word) (c : Channel) : (loadBase v c).chop = c.chop := rfl
@[simp] theorem loadBase_sync (v : Word) (c : Channel) : (loadBase v c).sync = c.sync := rfl
@[simp] theorem loadBase_chopDmaWin (v : Word) (c : Channel) : (loadBase v c).chopDmaWin = c.chopDmaWin := rfl
@[simp] theorem loadBase_chopCpuWin (v : Word) (c : Channel) : (loadBase v c).chopCpuWin = c.chopCpuWin := rfl
@[simp] theorem loadBase_enabled (v : Word) (c : Channel) : (loadBase v c).enabled = c.enabled := rfl
@[simp] theorem loadBase_trigger (v : Word) (c : Channel) : (loadBase v c).trigger = c.trigger := rfl
@[simp] theorem loadBase_readWrite (v : Word) (c : Channel) : (loadBase v c).readWrite = c.readWrite := rfl
@[simp] theorem loadBase_base (v : Word) (c : Channel) : (loadBase v c).base = v.extractLsb' 0 24 := rfl
@[simp] theorem loadBase_blockSize (v : Word) (c : Channel) : (loadBase v c).blockSize = c.blockSize := rfl
@[simp] theorem loadBase_blockCount (v : Word) (c : Channel) : (loadBase v c).blockCount = c.blockCount := rfl

@[simp] theorem loadBlock_direction (v : Word) (c : Channel) : (loadBlock v c).direction = c.direction := rfl
@[simp] theorem loadBlock_step (v : Word) (c : Channel) : (loadBlock v c).step = c.step := rfl
@[simp] theorem loadBlock_chop (v : Word) (c : Channel) : (loadBlock v c).chop = c.chop := rfl
@[simp] theorem loadBlock_sync (v : Word) (c : Channel) : (loadBlock v c).sync = c.sync := rfl
@[simp] theorem loadBlock_chopDmaWin (v : Word) (c : Channel) : (loadBlock v c).chopDmaWin = c.chopDmaWin := rfl
@[simp] theorem loadBlock_chopCpuWin (v : Word) (c : Channel) : (loadBlock v c).chopCpuWin = c.chopCpuWin := rfl
@[simp] theorem loadBlock_enabled (v : Word) (c : Channel) : (loadBlock v c).enabled = c.enabled := rfl
@[simp] theorem loadBlock_trigger (v : Word) (c : Channel) : (loadBlock v c).trigger = c.trigger := rfl
@[simp] theorem loadBlock_readWrite (v : Word) (c : Channel) : (loadBlock v c).readWrite = c.readWrite := rfl
@[simp] theorem loadBlock_base (v : Word) (c : Channel) : (loadBlock v c).base = c.base := rfl
@[simp] theorem loadBlock_blockSize (v : Word) (c : Channel) : (loadBlock v c).blockSize = blockField (lowHalf v) := rfl
@[simp] theorem loadBlock_blockCount (v : Word) (c : Channel) : (loadBlock v c).blockCount = blockField (highHalf v) := rfl

@[simp] theorem loadCtrl_direction (v : Word) (m : SyncMode) (c : Channel) : (loadCtrl v m c).direction = v.getLsbD 0 := rfl
@[simp] theorem loadCtrl_step (v : Word) (m : SyncMode) (c : Channel) : (loadCtrl v m c).step = v.getLsbD 1 := rfl
@[simp] theorem loadCtrl_chop (v : Word) (m : SyncMode) (c : Channel) : (loadCtrl v m c).chop = v.getLsbD 8 := rfl
@[simp] theorem loadCtrl_sync (v : Word) (m : SyncMode) (c : Channel) : (loadCtrl v m c).sync = m := rfl
@[simp] theorem loadCtrl_chopDmaWin (v : Word) (m : SyncMode) (c : Channel) : (loadCtrl v m c).chopDmaWin = v.extractLsb' 16 3 := rfl
@[simp] theorem loadCtrl_chopCpuWin (v : Word) (m : SyncMode) (c : Channel) : (loadCtrl v m c).chopCpuWin = v.extractLsb' 20 3 := rfl
@[simp] theorem loadCtrl_enabled (v : Word) (m : SyncMode) (c : Channel) : (loadCtrl v m c).enabled = v.getLsbD 24 := rfl
@[simp] theorem loadCtrl_trigger (v : Word) (m : SyncMode) (c : Channel) : (loadCtrl v m c).trigger = v.getLsbD 28 := rfl
@[simp] theorem loadCtrl_readWrite (v : Word) (m : SyncMode) (c : Channel) : (loadCtrl v m c).readWrite = v.extractLsb' 29 2 := rfl
@[simp] theorem loadCtrl_base (v : Word) (m : SyncMode) (c : Channel) : (loadCtrl v m c).base = c.base := rfl
@[simp] theorem loadCtrl_blockSize (v : Word) (m : SyncMode) (c : Channel) : (loadCtrl v m c).blockSize = c.blockSize := rfl
@[simp] theorem loadCtrl_blockCount (v : Word) (m : SyncMode) (c : Channel) : (loadCtrl v m c).blockCount = c.blockCount := rfl

/-! ## Pad updates -/

@[simp] theorem Pad.advance_connected (p : Pad) (r : Byte) : ((p.advance r).pad).connected = p.connected := rfl
@[simp] theorem Pad.advance_mode (p : Pad) (r : Byte) : ((p.advance r).pad).mode = p.mode := rfl
@[simp] theorem Pad.advance_cmd (p : Pad) (r : Byte) : ((p.advance r).pad).cmd = p.cmd := rfl
@[simp] theorem Pad.advance_seq (p : Pad) (r : Byte) : ((p.advance r).pad).seq = p.seq + 1 := rfl
@[simp] theorem Pad.advance_ack (p : Pad) (r : Byte) : ((p.advance r).pad).ack = true := rfl
@[simp] theorem Pad.advance_buttons (p : Pad) (r : Byte) : ((p.advance r).pad).buttons = p.buttons := rfl
@[simp] theorem Pad.advance_pendingSwitch (p : Pad) (r : Byte) : ((p.advance r).pad).pendingSwitch = p.pendingSwitch := rfl
@[simp] theorem Pad.advance_rightX (p : Pad) (r : Byte) : ((p.advance r).pad).rightX = p.rightX := rfl
@[simp] theorem Pad.advance_rightY (p : Pad) (r : Byte) : ((p.advance r).pad).rightY = p.rightY := rfl
@[simp] theorem Pad.advance_leftX (p : Pad) (r : Byte) : ((p.advance r).pad).leftX = p.leftX := rfl
@[simp] theorem Pad.advance_leftY (p : Pad) (r : Byte) : ((p.advance r).pad).leftY = p.leftY := rfl
@[simp] theorem Pad.advance_led (p : Pad) (r : Byte) : ((p.advance r).pad).led = p.led := rfl
@[simp] theorem Pad.advance_ledPending (p : Pad) (r : Byte) : ((p.advance r).pad).ledPending = p.ledPending := rfl
@[simp] theorem Pad.advance_analog (p : Pad) (r : Byte) : ((p.advance r).pad).analog = p.analog := rfl
@[simp] theorem Pad.advance_rumble (p : Pad) (r : Byte) : ((p.advance r).pad).rumble = p.rumble := rfl
@[simp] theorem Pad.advance_chordPrev (p : Pad) (r : Byte) : ((p.advance r).pad).chordPrev = p.chordPrev := rfl
@[simp] theorem Pad.advance_sel (p : Pad) (r : Byte) : ((p.advance r).pad).sel = p.sel := rfl

@[simp] theorem Pad.advance_reply (p : Pad) (r : Byte) : (p.advance r).reply = { resp := r, ack := true } := rfl
@[simp] theorem Pad.advance_log (p : Pad) (r : Byte) : (p.advance r).log = [] := rfl

@[simp] theorem Pad.applySwitch_connected (p : Pad) : p.applySwitch.connected = p.connected := by
  unfold Pad.applySwitch; split <;> rfl
@[simp] theorem Pad.applySwitch_cmd (p : Pad) : p.applySwitch.cmd = p.cmd := by
  unfold Pad.applySwitch; split <;> rfl
@[simp] theorem Pad.applySwitch_seq (p : Pad) : p.applySwitch.seq = p.seq := by
  unfold Pad.applySwitch; split <;> rfl
@[simp] theorem Pad.applySwitch_ack (p : Pad) : p.applySwitch.ack = p.ack := by
  unfold Pad.applySwitch; split <;> rfl
@[simp] theorem Pad.applySwitch_buttons (p : Pad) : p.applySwitch.buttons = p.buttons := by
  unfold Pad.applySwitch; split <;> rfl
@[simp] theorem Pad.applySwitch_rightX (p : Pad) : p.applySwitch.rightX = p.rightX := by
  unfold Pad.applySwitch; split <;> rfl
@[simp] theorem Pad.applySwitch_rightY (p : Pad) : p.applySwitch.rightY = p.rightY := by
  unfold Pad.applySwitch; split <;> rfl
@[simp] theorem Pad.applySwitch_leftX (p : Pad) : p.applySwitch.leftX = p.leftX := by
  unfold Pad.applySwitch; split <;> rfl
@[simp] theorem Pad.applySwitch_leftY (p : Pad) : p.applySwitch.leftY = p.leftY := by
  unfold Pad.applySwitch; split <;> rfl
@[simp] theorem Pad.applySwitch_led (p : Pad) : p.applySwitch.led = p.led := by
  unfold Pad.applySwitch; split <;> rfl
@[simp] theorem Pad.applySwitch_ledPending (p : Pad) : p.applySwitch.ledPending = p.ledPending := by
  unfold Pad.applySwitch; split <;> rfl
@[simp] theorem Pad.applySwitch_analog (p : Pad) : p.applySwitch.analog = p.analog := by
  unfold Pad.applySwitch; split <;> rfl
@[simp] theorem Pad.applySwitch_rumble (p : Pad) : p.applySwitch.rumble = p.rumble := by
  unfold Pad.applySwitch; split <;> rfl
@[simp] theorem Pad.applySwitch_chordPrev (p : Pad) : p.applySwitch.chordPrev = p.chordPrev := by
  unfold Pad.applySwitch; split <;> rfl
@[simp] theorem Pad.applySwitch_sel (p : Pad) : p.applySwitch.sel = p.sel := by
  unfold Pad.applySwitch; split <;> rfl
@[simp] theorem Pad.applySwitch_pendingSwitch (p : Pad) : p.applySwitch.pendingSwitch = .none := by
  unfold Pad.applySwitch
  split <;> simp_all

@[simp] theorem Pad.endDialogue_connected (p : Pad) (r : Byte) : (p.endDialogue r).pad.connected = p.connected := by
  simp [Pad.endDialogue]
@[simp] theorem Pad.endDialogue_cmd (p : Pad) (r : Byte) : (p.endDialogue r).pad.cmd = p.cmd := by
  simp [Pad.endDialogue]
@[simp] theorem Pad.endDialogue_seq (p : Pad) (r : Byte) : (p.endDialogue r).pad.seq = 0 := by
  simp [Pad.endDialogue]
@[simp] theorem Pad.endDialogue_ack (p : Pad) (r : Byte) : (p.endDialogue r).pad.ack = false := by
  simp [Pad.endDialogue]
@[simp] theorem Pad.endDialogue_buttons (p : Pad) (r : Byte) : (p.endDialogue r).pad.buttons = p.buttons := by
  simp [Pad.endDialogue]
@[simp] theorem Pad.endDialogue_rightX (p : Pad) (r : Byte) : (p.endDialogue r).pad.rightX = p.rightX := by
  simp [Pad.endDialogue]
@[simp] theorem Pad.endDialogue_rightY (p : Pad) (r : Byte) : (p.endDialogue r).pad.rightY = p.rightY := by
  simp [Pad.endDialogue]
@[simp] theorem Pad.endDialogue_leftX (p : Pad) (r : Byte) : (p.endDialogue r).pad.leftX = p.leftX := by
  simp [Pad.endDialogue]
@[simp] theorem Pad.endDialogue_leftY (p : Pad) (r : Byte) : (p.endDialogue r).pad.leftY = p.leftY := by
  simp [Pad.endDialogue]
@[simp] theorem Pad.endDialogue_led (p : Pad) (r : Byte) : (p.endDialogue r).pad.led = p.led := by
  simp [Pad.endDialogue]
@[simp] theorem Pad.endDialogue_ledPending (p : Pad) (r : Byte) : (p.endDialogue r).pad.ledPending = p.ledPending := by
  simp [Pad.endDialogue]
@[simp] theorem Pad.endDialogue_analog (p : Pad) (r : Byte) : (p.endDialogue r).pad.analog = p.analog := by
  simp [Pad.endDialogue]
@[simp] theorem Pad.endDialogue_rumble (p : Pad) (r : Byte) : (p.endDialogue r).pad.rumble = p.rumble := by
  simp [Pad.endDialogue]
@[simp] theorem Pad.endDialogue_chordPrev (p : Pad) (r : Byte) : (p.endDialogue r).pad.chordPrev = p.chordPrev := by
  simp [Pad.endDialogue]
@[simp] theorem Pad.endDialogue_sel (p : Pad) (r : Byte) : (p.endDialogue r).pad.sel = p.sel := by
  simp [Pad.endDialogue]
@[simp] theorem Pad.endDialogue_pendingSwitch (p : Pad) (r : Byte) : (p.endDialogue r).pad.pendingSwitch = .none := by
  simp [Pad.endDialogue]

@[simp] theorem Pad.endDialogue_reply (p : Pad) (r : Byte) : (p.endDialogue r).reply = { resp := r, ack := false } := rfl

@[simp] theorem Pad.endDialogue_log (p : Pad) (r : Byte) : (p.endDialogue r).log = [] := rfl

@[simp] theorem Pad.cutOff_connected (p : Pad) (log : List LogEntry) : ((p.cutOff log).pad).connected = p.connected := rfl
@[simp] theorem Pad.cutOff_mode (p : Pad) (log : List LogEntry) : ((p.cutOff log).pad).mode = p.mode := rfl
@[simp] theorem Pad.cutOff_cmd (p : Pad) (log : List LogEntry) : ((p.cutOff log).pad).cmd = p.cmd := rfl
@[simp] theorem Pad.cutOff_seq (p : Pad) (log : List LogEntry) : ((p.cutOff log).pad).seq = 0 := rfl
@[simp] theorem Pad.cutOff_ack (p : Pad) (log : List LogEntry) : ((p.cutOff log).pad).ack = false := rfl
@[simp] theorem Pad.cutOff_buttons (p : Pad) (log : List LogEntry) : ((p.cutOff log).pad).buttons = p.buttons := rfl
@[simp] theorem Pad.cutOff_pendingSwitch (p : Pad) (log : List LogEntry) : ((p.cutOff log).pad).pendingSwitch = .none := rfl
@[simp] theorem Pad.cutOff_rightX (p : Pad) (log : List LogEntry) : ((p.cutOff log).pad).rightX = p.rightX := rfl
@[simp] theorem Pad.cutOff_rightY (p : Pad) (log : List LogEntry) : ((p.cutOff log).pad).rightY = p.rightY := rfl
@[simp] theorem Pad.cutOff_leftX (p : Pad) (log : List LogEntry) : ((p.cutOff log).pad).leftX = p.leftX := rfl
@[simp] theorem Pad.cutOff_leftY (p : Pad) (log : List LogEntry) : ((p.cutOff log).pad).leftY = p.leftY := rfl
@[simp] theorem Pad.cutOff_led (p : Pad) (log : List LogEntry) : ((p.cutOff log).pad).led = p.led := rfl
@[simp] theorem Pad.cutOff_ledPending (p : Pad) (log : List LogEntry) : ((p.cutOff log).pad).ledPending = p.ledPending := rfl
@[simp] theorem Pad.cutOff_analog (p : Pad) (log : List LogEntry) : ((p.cutOff log).pad).analog = p.analog := rfl
@[simp] theorem Pad.cutOff_rumble (p : Pad) (log : List LogEntry) : ((p.cutOff log).pad).rumble = p.rumble := rfl
@[simp] theorem Pad.cutOff_chordPrev (p : Pad) (log : List LogEntry) : ((p.cutOff log).pad).chordPrev = p.chordPrev := rfl
@[simp] theorem Pad.cutOff_sel (p : Pad) (log : List LogEntry) : ((p.cutOff log).pad).sel = p.sel := rfl

@[simp] theorem Pad.cutOff_reply (p : Pad) (log : List LogEntry) : (p.cutOff log).reply = { resp := 0xFF, ack := false } := rfl
@[simp] theorem Pad.cutOff_log (p : Pad) (log : List LogEntry) : (p.cutOff log).log = log := rfl

@[simp] theorem Pad.setRumble_connected (p : Pad) (i : Nat) (d : Byte) : (p.setRumble i d).connected = p.connected := rfl
@[simp] theorem Pad.setRumble_mode (p : Pad) (i : Nat) (d : Byte) : (p.setRumble i d).mode = p.mode := rfl
@[simp] theorem Pad.setRumble_cmd (p : Pad) (i : Nat) (d : Byte) : (p.setRumble i d).cmd = p.cmd := rfl
@[simp] theorem Pad.setRumble_seq (p : Pad) (i : Nat) (d : Byte) : (p.setRumble i d).seq = p.seq := rfl
@[simp] theorem Pad.setRumble_ack (p : Pad) (i : Nat) (d : Byte) : (p.setRumble i d).ack = p.ack := rfl
@[simp] theorem Pad.setRumble_buttons (p : Pad) (i : Nat) (d : Byte) : (p.setRumble i d).buttons = p.buttons := rfl
@[simp] theorem Pad.setRumble_pendingSwitch (p : Pad) (i : Nat) (d : Byte) : (p.setRumble i d).pendingSwitch = p.pendingSwitch := rfl
@[simp] theorem Pad.setRumble_rightX (p : Pad) (i : Nat) (d : Byte) : (p.setRumble i d).rightX = p.rightX := rfl
@[simp] theorem Pad.setRumble_rightY (p : Pad) (i : Nat) (d : Byte) : (p.setRumble i d).rightY = p.rightY := rfl
@[simp] theorem Pad.setRumble_leftX (p : Pad) (i : Nat) (d : Byte) : (p.setRumble i d).leftX = p.leftX := rfl
@[simp] theorem Pad.setRumble_leftY (p : Pad) (i : Nat) (d : Byte) : (p.setRumble i d).leftY = p.leftY := rfl
@[simp] theorem Pad.setRumble_led (p : Pad) (i : Nat) (d : Byte) : (p.setRumble i d).led = p.led := rfl
@[simp] theorem Pad.setRumble_ledPending (p : Pad) (i : Nat) (d : Byte) : (p.setRumble i d).ledPending = p.ledPending := rfl
@[simp] theorem Pad.setRumble_analog (p : Pad) (i : Nat) (d : Byte) : (p.setRumble i d).analog = p.analog := rfl
@[simp] theorem Pad.setRumble_rumble (p : Pad) (i : Nat) (d : Byte) : (p.setRumble i d).rumble = p.rumble.setIfInBounds i d := rfl
@[simp] theorem Pad.setRumble_chordPrev (p : Pad) (i : Nat) (d : Byte) : (p.setRumble i d).chordPrev = p.chordPrev := rfl
@[simp] theorem Pad.setRumble_sel (p : Pad) (i : Nat) (d : Byte) : (p.setRumble i d).sel = p.sel := rfl

end Sys2Proof.Machine
end

