-- ==== Sys2Proof/Laws/Ops.lean ====
section
/-! SUPPORT. For each shared operation, one lemma that says everything it can do, so that later proofs cite it and never unfold the
operation. -/

namespace Sys2Proof.Machine

/-! ## Sequencing -/

theorem next_eq_next {s t : State} : (Host.Outcome.next s : Out) = .next t ↔ t = s :=
  ⟨fun h => by cases h; rfl, fun h => h ▸ rfl⟩

@[simp] theorem andThen_next_eq (s : State) (f : State → Out) : andThen (.next s) f = f s := rfl

theorem andThen_eq_next {o : Out} {f : State → Out} {t : State} :
    andThen o f = .next t ↔ ∃ s, o = .next s ∧ f s = .next t := by
  cases o <;> simp [andThen]

/-! ## DMA -/

theorem withChannel_of_lt {n : Nat} (h : n < 7) (f : Chan → Out) : withChannel n f = f ⟨n, h⟩ := by
  simp [withChannel, h]

theorem withChannel_eq_next {n : Nat} {f : Chan → Out} {t : State} :
    withChannel n f = .next t ↔ ∃ h : n < 7, f ⟨n, h⟩ = .next t := by
  by_cases h : n < 7 <;> simp [withChannel, h]

theorem withChannel_refused {n : Nat} (h : ¬n < 7) (f : Chan → Out) :
    withChannel n f = .refused (.noSuchChannel n) := by
  simp [withChannel, h]

theorem busWrite_eq_next {f : Dma → Dma} {s t : State} :
    busWrite f s = .next t ↔ s.dma.inCallback = false ∧ t = s.setDma (f s.dma) := by
  unfold busWrite
  cases s.dma.inCallback <;> simp [eq_comm]

theorem busWrite_inCallback {f : Dma → Dma} {s : State} (h : s.dma.inCallback = true) :
    busWrite f s = .refused .busWriteInCallback := by
  simp [busWrite, h]

theorem channelWrite_eq_next {n : Chan} {f : Channel → Channel} {s t : State} :
    channelWrite n f s = .next t ↔
      s.dma.inCallback = false ∧ t = s.setDma (s.dma.setChan n (f (s.dma.chan n))) := by
  unfold channelWrite; exact busWrite_eq_next

theorem channelWrite_inCallback {n : Chan} {f : Channel → Channel} {s : State} (h : s.dma.inCallback = true) :
    channelWrite n f s = .refused .busWriteInCallback := by
  unfold channelWrite; exact busWrite_inCallback h

/-- When the transfer engine is invoked, and the state the invocation leaves. -/
theorem trigger_eq_next {n : Chan} {s t : State} :
    trigger n s = .next t ↔
      s.dma.inCallback = false ∧ (s.dma.dispatching = some n ∧ isActive (s.dma.chan n) = true) ∧ (∃ e, s.dma.engine = some e) ∧
        t = { s with
          dma := (engineRun s.dma.enterCallback n).leaveCallback, result := .completed,
          engineCalls := s.engineCalls ++ [{ port := n, dma := s.dma.enterCallback }] } := by
  unfold trigger
  by_cases h : s.dma.dispatching = some n ∧ isActive (s.dma.chan n) = true
  · cases s.dma.inCallback <;> cases s.dma.engine <;> simp [h, eq_comm]
  · cases s.dma.inCallback <;> simp [h]

/-- No invocation without a channel-control write that has made the channel active (spec/41_dma_global_irq_trigger.md R195, R196). -/
theorem trigger_without_write {n : Chan} {s : State} (hc : s.dma.inCallback = false)
    (h : ¬(s.dma.dispatching = some n ∧ isActive (s.dma.chan n) = true)) : trigger n s = .refused (.noDispatchingWrite n) := by
  simp [trigger, hc, h]

/-- The three ways a channel-control write goes on: the error, a store, a store with a dispatch. -/
theorem ctrlWrite_eq_next {n : Chan} {v : Word} {s t : State} :
    ctrlWrite n v s = .next t ↔
      (SyncMode.ofBits (v.extractLsb' 9 2) = none ∧ t = s.raise (.invalidConfiguration n v)) ∨
      ∃ m, SyncMode.ofBits (v.extractLsb' 9 2) = some m ∧ s.dma.inCallback = false ∧
        ((isActive (loadCtrl v m (s.dma.chan n)) = false ∧ t = s.setDma (s.dma.setChan n (loadCtrl v m (s.dma.chan n)))) ∨
          (isActive (loadCtrl v m (s.dma.chan n)) = true ∧
            trigger n (s.setDma ((s.dma.setChan n (loadCtrl v m (s.dma.chan n))).startDispatch n)) = .next t)) := by
  unfold ctrlWrite
  cases SyncMode.ofBits (v.extractLsb' 9 2) with
  | none => simp; exact eq_comm
  | some m => cases s.dma.inCallback <;> cases h : isActive (loadCtrl v m (s.dma.chan n)) <;> simp [h] <;> exact eq_comm

/-- A half write never activates: bit 24 of the widened word is 0 (spec/40_dma_channel_registers.md R154). -/
theorem isActive_loadCtrl_widen (h : Half) (m : SyncMode) (c : Channel) : isActive (loadCtrl (widen h) m c) = false := by
  have h24 : (loadCtrl (widen h) m c).enabled = false := by
    show (widen h).getLsbD 24 = false
    simp only [widen, BitVec.getLsbD_setWidth]
    rw [BitVec.getLsbD_of_ge _ _ (by omega)]; rfl
  simp only [isActive, h24]
  split <;> simp

/-- What a conforming engine changes: two bits of the channel, and its flag if masked in. -/
theorem engineRun_eq (d : Dma) (n : Chan) :
    engineRun d n =
      { (d.done n) with flags := if irqEnabled d n then setFlag d.flags n else d.flags } := by
  show (if irqEnabled d n then (d.done n).setIrq n else d.done n) = _
  split <;> rfl

/-! ## GPA -/

theorem gpaBegin_eq_next {w0 : Word} {ctx : DrawCtx} {s t : State} :
    gpaBegin w0 ctx s = .next t ↔
      (isPolygonWord w0 = true ∧ t = s.setGpa { prim := .polygon (beginPolygon w0 ctx.toPoly), buf := [] }) ∨
      (isPolygonWord w0 = false ∧ isRectangleWord w0 = true ∧
        t = s.setGpa { prim := .rectangle (beginRectangle w0 ctx), buf := [] }) := by
  unfold gpaBegin
  cases isPolygonWord w0 <;> cases isRectangleWord w0 <;> simp [eq_comm]

theorem gpaAdd_eq_next {w : Word} {s t : State} :
    gpaAdd w s = .next t ↔
      ∃ e, expectedOf s.gpa.prim = some e ∧ s.gpa.buf.length < e ∧ t = s.setGpa { s.gpa with buf := s.gpa.buf ++ [w] } := by
  unfold gpaAdd
  cases expectedOf s.gpa.prim with
  | none => simp
  | some e => by_cases h : s.gpa.buf.length < e <;> simp [h, eq_comm]

theorem gpaReady_eq_next {s t : State} :
    gpaReady s = .next t ↔
      ∃ e, expectedOf s.gpa.prim = some e ∧ t = s.reply (.bit (s.gpa.buf.length == e)) := by
  unfold gpaReady
  cases expectedOf s.gpa.prim <;> simp [eq_comm]

/-- The two ways a draw goes on. -/
theorem gpaDraw_eq_next {s t : State} :
    gpaDraw s = .next t ↔
      (∃ p, s.gpa.prim = .polygon p ∧ s.gpa.buf.length = p.expected ∧
        t = s.emit { s.gpa with prim := .polygon { p with decoded := some (p.decoded.getD (setupArrays p s.gpa.buf)) } }
          (trianglesOf (polygonVertex p (p.decoded.getD (setupArrays p s.gpa.buf))) p.quad)) ∨
      (∃ r, s.gpa.prim = .rectangle r ∧ s.gpa.buf.length = r.expected ∧
        t = s.emit s.gpa (trianglesOf (rectangleVertex r s.gpa.buf) true)) := by
  unfold gpaDraw
  cases s.gpa.prim with
  | none => simp
  | polygon p => by_cases h : s.gpa.buf.length = p.expected <;> simp [h] <;> exact eq_comm
  | rectangle r => by_cases h : s.gpa.buf.length = r.expected <;> simp [h] <;> exact eq_comm

/-- Words that fit are all appended. -/
theorem gpaAddAll_fit (ws : List Word) (s : State) (e : Nat) (he : expectedOf s.gpa.prim = some e)
    (hw : s.gpa.buf.length + ws.length ≤ e) (hr : ws ≠ []) :
    gpaAddAll ws s = .next (s.setGpa { s.gpa with buf := s.gpa.buf ++ ws }) := by
  induction ws generalizing s with
  | nil => exact absurd rfl hr
  | cons w rest ih =>
    have hlt : s.gpa.buf.length < e := by simp at hw; omega
    have hadd : gpaAdd w s = .next (s.setGpa { s.gpa with buf := s.gpa.buf ++ [w] }) :=
      gpaAdd_eq_next.2 ⟨e, he, hlt, rfl⟩
    cases rest with
    | nil => simp [gpaAddAll, hadd]
    | cons v more =>
      have hw' : (s.gpa.buf ++ [w]).length + (v :: more).length ≤ e := by
        simp only [List.length_append, List.length_cons, List.length_nil] at hw ⊢; omega
      have := ih (s.setGpa { s.gpa with buf := s.gpa.buf ++ [w] }) he hw' (by simp)
      simp only [gpaAddAll, hadd, andThen_next_eq]
      simp only [gpaAddAll] at this
      rw [this]
      simp [State.setGpa]

/-- A whole polygon stream of the right length runs to its triangles. -/
theorem runPrimitive_polygon {ctx : DrawCtx} {w0 : Word} {ws : List Word} (s : State) (h : isPolygonWord w0 = true)
    (hl : ws.length + 1 = (beginPolygon w0 ctx.toPoly).expected) :
    runPrimitive ctx w0 ws s =
      .next (s.emit
        { prim := .polygon
            { beginPolygon w0 ctx.toPoly with decoded := some (setupArrays (beginPolygon w0 ctx.toPoly) (w0 :: ws)) },
          buf := w0 :: ws }
        (trianglesOf (polygonVertex (beginPolygon w0 ctx.toPoly) (setupArrays (beginPolygon w0 ctx.toPoly) (w0 :: ws)))
          (beginPolygon w0 ctx.toPoly).quad)) := by
  unfold runPrimitive
  rw [gpaBegin_eq_next.2 (.inl ⟨h, rfl⟩), andThen_next_eq,
    gpaAddAll_fit (w0 :: ws) _ (beginPolygon w0 ctx.toPoly).expected rfl (by simp [State.setGpa]; omega) (by simp), andThen_next_eq,
    gpaDraw_eq_next.2 (.inl ⟨beginPolygon w0 ctx.toPoly, rfl, by simp [State.setGpa]; omega, rfl⟩)]
  rfl

/-- A whole rectangle stream of the right length runs to its triangles. -/
theorem runPrimitive_rectangle {ctx : DrawCtx} {w0 : Word} {ws : List Word} (s : State) (hp : isPolygonWord w0 = false)
    (h : isRectangleWord w0 = true) (hl : ws.length + 1 = (beginRectangle w0 ctx).expected) :
    runPrimitive ctx w0 ws s =
      .next (s.emit { prim := .rectangle (beginRectangle w0 ctx), buf := w0 :: ws }
        (trianglesOf (rectangleVertex (beginRectangle w0 ctx) (w0 :: ws)) true)) := by
  unfold runPrimitive
  rw [gpaBegin_eq_next.2 (.inr ⟨hp, h, rfl⟩), andThen_next_eq,
    gpaAddAll_fit (w0 :: ws) _ (beginRectangle w0 ctx).expected rfl (by simp [State.setGpa]; omega) (by simp), andThen_next_eq,
    gpaDraw_eq_next.2 (.inr ⟨beginRectangle w0 ctx, rfl, by simp [State.setGpa]; omega, rfl⟩)]
  rfl

/-! ## PAD -/

/-- The three arms of an exchange, in the order of spec/44_pad_protocol.md R263. -/
theorem Pad.exchange_disconnected {p : Pad} (h : p.connected = false) (d : Byte) :
    p.exchange d = .answer { reply := { resp := 0xFF, ack := false }, pad := { p with ack := false }, log := [] } := by
  simp [Pad.exchange, h]

theorem Pad.exchange_overrun {p : Pad} (h : p.connected = true) (hs : 7 < p.seq) (d : Byte) :
    p.exchange d = .answer (p.cutOff [.report (.unknownSequenceStep p.seq)]) := by
  simp [Pad.exchange, h, hs]

theorem Pad.exchange_normal {p : Pad} (h : p.connected = true) (hs : p.seq ≤ 7) (hm : p.mode = .normal) (d : Byte) :
    p.exchange d = .answer (p.normalStep d) := by
  simp [Pad.exchange, h, hm, Nat.not_lt.2 hs]

theorem Pad.exchange_config {p : Pad} (h : p.connected = true) (hs : p.seq ≤ 7) (hm : p.mode = .config) (d : Byte) :
    p.exchange d = p.configStep d := by
  simp [Pad.exchange, h, hm, Nat.not_lt.2 hs]

theorem padExchange_eq_next {d : Byte} {s t : State} :
    padExchange d s = .next t ↔
      (∃ x, s.pad.exchange d = .answer x ∧ t = { s.setPad x.pad (.pad x.reply) with log := s.log ++ x.log }) ∨
      (∃ e, s.pad.exchange d = .raise e ∧ t = s.raise e) := by
  unfold padExchange
  cases s.pad.exchange d <;> simp <;> exact eq_comm

theorem padDialogue_eq_next {bytes : List Byte} {s t : State} :
    padDialogue bytes s = .next t ↔
      (s.pad.runDialogue bytes).covered = true ∧
        t = { s.setPad (s.pad.runDialogue bytes).pad (.dialogue (s.pad.runDialogue bytes).replies (s.pad.runDialogue bytes).error) with
          log := s.log ++ (s.pad.runDialogue bytes).log } := by
  simp only [padDialogue]
  cases (s.pad.runDialogue bytes).covered <;> simp <;> exact eq_comm

/-- An exchange that acknowledges is followed by the next byte. -/
theorem Pad.runDialogue_go {p q : Pad} {d : Byte} {ds : List Byte} {r : Byte} {l : List LogEntry}
    (h : p.exchange d = .answer { reply := { resp := r, ack := true }, pad := q, log := l }) :
    p.runDialogue (d :: ds) =
      { q.runDialogue ds with
        replies := { resp := r, ack := true } :: (q.runDialogue ds).replies, log := l ++ (q.runDialogue ds).log } := by
  simp [Pad.runDialogue, h]

/-- An exchange that does not acknowledge ends the dialogue. -/
theorem Pad.runDialogue_stop {p q : Pad} {d : Byte} {ds : List Byte} {r : Byte} {l : List LogEntry}
    (h : p.exchange d = .answer { reply := { resp := r, ack := false }, pad := q, log := l }) :
    p.runDialogue (d :: ds) =
      { replies := [{ resp := r, ack := false }], pad := q, log := l, error := none, covered := true } := by
  simp [Pad.runDialogue, h]

theorem pollPad_eq_some {prof : Profile} {snap : Snapshot} {p q : Pad} :
    pollPad prof snap p = some q ↔
      ∃ rx ry lx ly, axisOf snap prof.iRX = some rx ∧ axisOf snap prof.iRY = some ry ∧ axisOf snap prof.iLX = some lx ∧
        axisOf snap prof.iLY = some ly ∧
        q = { p with
          buttons := pollButtons prof.btn snap p.buttons, rightX := rx, rightY := ry, leftX := lx, leftY := ly,
          analog := if chordHeld prof snap && !p.chordPrev then !p.analog else p.analog, chordPrev := chordHeld prof snap } := by
  unfold pollPad
  constructor
  · split
    · intro h
      exact ⟨_, _, _, _, ‹_›, ‹_›, ‹_›, ‹_›, (Option.some.inj h).symm⟩
    · intro h; cases h
  · rintro ⟨rx, ry, lx, ly, h1, h2, h3, h4, rfl⟩
    rw [h1, h2, h3, h4]

theorem pollWith_eq_next {prof : Option Profile} {snap : Snapshot} {s t : State} :
    pollWith prof snap s = .next t ↔
      (prof = none ∧ t = { s.reply .completed with log := s.log ++ [.unknownDevice snap.name] }) ∨
      (∃ p q, prof = some p ∧ pollPad p snap s.pad = some q ∧ t = s.setPad q .completed) := by
  unfold pollWith
  cases prof with
  | none => simp; exact eq_comm
  | some p => cases h : pollPad p snap s.pad <;> simp [h] <;> exact eq_comm

/-! ## The step -/

theorem rejected_eq_next {e : DecodeError} {s t : State} :
    rejected e s = .next t ↔ ∃ addr, e = .unhandledAddress addr ∧ t = s.raise (.unhandledAddress addr) := by
  cases e <;> simp [rejected] <;> exact eq_comm

theorem performRequest_eq_next {r : Request} {s t : State} :
    performRequest r s = .next t ↔
      (∃ i, decode r = .ok i ∧ exec i s = .next t) ∨
      (∃ addr, decode r = .error (.unhandledAddress addr) ∧ t = s.raise (.unhandledAddress addr)) := by
  unfold performRequest
  cases decode r with
  | ok i => simp
  | error e => simp [rejected_eq_next]

/-- Everything one step can do. -/
theorem step_eq_next {s t : State} :
    step s = .next t ↔
      (s.pending = [] ∧ t = s) ∨
      (∃ r rest, s.pending = .operation r :: rest ∧ performRequest r { s with pending := rest } = .next t) ∨
      (∃ agent rest, s.pending = .bindEngine agent :: rest ∧ t = bindEngine agent { s with pending := rest }) := by
  unfold step
  cases s.pending with
  | nil => simp; exact eq_comm
  | cons i rest => cases i <;> simp <;> exact eq_comm

end Sys2Proof.Machine
end

