-- ==== Sys2Proof/Laws/PerInstr.lean ====
section
/-! SUPPORT. The family `TableRow` (LAWS.json): the encoding of every operation carries the access, the width and the fixed bits of its
row of spec/opcode_table.json. -/

namespace Sys2Proof.Laws

open Sys2Proof

/-- Direction (`true` a write) and width of a bus access; no other request has them. -/
def Request.access (r : Request) : Option (Bool × Nat) :=
  match r with
  | .busRead8 _ => some (false, 8)
  | .busRead16 _ => some (false, 16)
  | .busRead32 _ => some (false, 32)
  | .busWrite8 _ _ => some (true, 8)
  | .busWrite16 _ _ => some (true, 16)
  | .busWrite32 _ _ => some (true, 32)
  | _ => none

/-- The bits by which the table tells a row: the address, the first command word, the first byte of a dialogue; a call has none. -/
def Request.word (r : Request) : Option Word :=
  match r with
  | .busRead8 addr => some addr
  | .busRead16 addr => some addr
  | .busRead32 addr => some addr
  | .busWrite8 addr _ => some addr
  | .busWrite16 addr _ => some addr
  | .busWrite32 addr _ => some addr
  | .primitive _ (w0 :: _) => some w0
  | .dialogue _ (b :: _) => some (b.setWidth 32)
  | _ => none

/-- The columns of a row: access and width, mask, match. -/
structure TableRow.Columns where
  access : Option (Bool × Nat)
  mask : Word
  fixed : Option Word

/-- The row of an operation, copied from the table (for a dialogue, from its first byte). -/
def TableRow.row (i : Instr) : TableRow.Columns :=
  match i with
  | .rd32Base _ => ⟨some (false, 32), 0xFFFFFF8F#32, some 0x1F801080#32⟩
  | .wr32Base _ _ => ⟨some (true, 32), 0xFFFFFF8F#32, some 0x1F801080#32⟩
  | .rd16Base _ => ⟨some (false, 16), 0xFFFFFF8F#32, some 0x1F801080#32⟩
  | .wr16Base _ _ => ⟨some (true, 16), 0xFFFFFF8F#32, some 0x1F801080#32⟩
  | .wr32Block _ _ => ⟨some (true, 32), 0xFFFFFF8F#32, some 0x1F801084#32⟩
  | .rd32Block _ => ⟨some (false, 32), 0xFFFFFF8F#32, some 0x1F801084#32⟩
  | .rd16Block _ => ⟨some (false, 16), 0xFFFFFF8F#32, some 0x1F801084#32⟩
  | .wr16Block _ _ => ⟨some (true, 16), 0xFFFFFF8F#32, some 0x1F801084#32⟩
  | .rd32Ctrl _ => ⟨some (false, 32), 0xFFFFFF8F#32, some 0x1F801088#32⟩
  | .wr32Ctrl _ _ => ⟨some (true, 32), 0xFFFFFF8F#32, some 0x1F801088#32⟩
  | .rd16Ctrl _ => ⟨some (false, 16), 0xFFFFFF8F#32, some 0x1F801088#32⟩
  | .wr16Ctrl _ _ => ⟨some (true, 16), 0xFFFFFF8F#32, some 0x1F801088#32⟩
  | .rd8Base _ _ => ⟨some (false, 8), 0xFFFFFF8C#32, some 0x1F801080#32⟩
  | .wr8Base _ _ _ => ⟨some (true, 8), 0xFFFFFF8C#32, some 0x1F801080#32⟩
  | .rd8Block _ _ => ⟨some (false, 8), 0xFFFFFF8C#32, some 0x1F801084#32⟩
  | .wr8Block _ _ _ => ⟨some (true, 8), 0xFFFFFF8C#32, some 0x1F801084#32⟩
  | .rd8Ctrl _ _ => ⟨some (false, 8), 0xFFFFFF8C#32, some 0x1F801088#32⟩
  | .wr8Ctrl _ _ _ => ⟨some (true, 8), 0xFFFFFF8C#32, some 0x1F801088#32⟩
  | .rd32Dpcr => ⟨some (false, 32), 0xFFFFFFFF#32, some 0x1F8010F0#32⟩
  | .wr32Dpcr _ => ⟨some (true, 32), 0xFFFFFFFF#32, some 0x1F8010F0#32⟩
  | .rd16Dpcr => ⟨some (false, 16), 0xFFFFFFFF#32, some 0x1F8010F0#32⟩
  | .wr16Dpcr _ => ⟨some (true, 16), 0xFFFFFFFF#32, some 0x1F8010F0#32⟩
  | .rd32Dicr => ⟨some (false, 32), 0xFFFFFFFF#32, some 0x1F8010F4#32⟩
  | .wr32Dicr _ => ⟨some (true, 32), 0xFFFFFFFF#32, some 0x1F8010F4#32⟩
  | .rd16DicrL => ⟨some (false, 16), 0xFFFFFFFF#32, some 0x1F8010F4#32⟩
  | .rd16DicrH => ⟨some (false, 16), 0xFFFFFFFF#32, some 0x1F8010F6#32⟩
  | .wr16DicrL _ => ⟨some (true, 16), 0xFFFFFFFF#32, some 0x1F8010F4#32⟩
  | .wr16DicrH _ => ⟨some (true, 16), 0xFFFFFFFF#32, some 0x1F8010F6#32⟩
  | .rd8Dicr0 => ⟨some (false, 8), 0xFFFFFFFF#32, some 0x1F8010F4#32⟩
  | .rd8Dicr1 => ⟨some (false, 8), 0xFFFFFFFF#32, some 0x1F8010F5#32⟩
  | .rd8Dicr2 => ⟨some (false, 8), 0xFFFFFFFF#32, some 0x1F8010F6#32⟩
  | .rd8Dicr3 => ⟨some (false, 8), 0xFFFFFFFF#32, some 0x1F8010F7#32⟩
  | .wr8Dicr0 _ => ⟨some (true, 8), 0xFFFFFFFF#32, some 0x1F8010F4#32⟩
  | .wr8Dicr1 _ => ⟨some (true, 8), 0xFFFFFFFF#32, some 0x1F8010F5#32⟩
  | .wr8Dicr2 _ => ⟨some (true, 8), 0xFFFFFFFF#32, some 0x1F8010F6#32⟩
  | .wr8Dicr3 _ => ⟨some (true, 8), 0xFFFFFFFF#32, some 0x1F8010F7#32⟩
  | .setIrq _ => ⟨none, 0x0#32, none⟩
  | .hasIrq => ⟨none, 0x0#32, none⟩
  | .irqEn _ => ⟨none, 0x0#32, none⟩
  | .doneCh _ => ⟨none, 0x0#32, none⟩
  | .triggerCh _ => ⟨none, 0x0#32, none⟩
  | .beginPrim _ _ => ⟨none, 0x0#32, none⟩
  | .addWord _ => ⟨none, 0x0#32, none⟩
  | .ready => ⟨none, 0x0#32, none⟩
  | .draw => ⟨none, 0x0#32, none⟩
  | .polyF3 _ _ _ _ _ => ⟨none, 0xFF000000#32, some 0x20000000#32⟩
  | .polyF3R _ _ _ _ _ => ⟨none, 0xFF000000#32, some 0x21000000#32⟩
  | .polyF3S _ _ _ _ _ => ⟨none, 0xFF000000#32, some 0x22000000#32⟩
  | .polyF3SR _ _ _ _ _ => ⟨none, 0xFF000000#32, some 0x23000000#32⟩
  | .polyF3T _ _ _ _ _ _ _ _ => ⟨none, 0xFF000000#32, some 0x24000000#32⟩
  | .polyF3TR _ _ _ _ _ _ _ _ => ⟨none, 0xFF000000#32, some 0x25000000#32⟩
  | .polyF3TS _ _ _ _ _ _ _ _ => ⟨none, 0xFF000000#32, some 0x26000000#32⟩
  | .polyF3TSR _ _ _ _ _ _ _ _ => ⟨none, 0xFF000000#32, some 0x27000000#32⟩
  | .polyF4 _ _ _ _ _ _ => ⟨none, 0xFF000000#32, some 0x28000000#32⟩
  | .polyF4R _ _ _ _ _ _ => ⟨none, 0xFF000000#32, some 0x29000000#32⟩
  | .polyF4S _ _ _ _ _ _ => ⟨none, 0xFF000000#32, some 0x2A000000#32⟩
  | .polyF4SR _ _ _ _ _ _ => ⟨none, 0xFF000000#32, some 0x2B000000#32⟩
  | .polyF4T _ _ _ _ _ _ _ _ _ _ => ⟨none, 0xFF000000#32, some 0x2C000000#32⟩
  | .polyF4TR _ _ _ _ _ _ _ _ _ _ => ⟨none, 0xFF000000#32, some 0x2D000000#32⟩
  | .polyF4TS _ _ _ _ _ _ _ _ _ _ => ⟨none, 0xFF000000#32, some 0x2E000000#32⟩
  | .polyF4TSR _ _ _ _ _ _ _ _ _ _ => ⟨none, 0xFF000000#32, some 0x2F000000#32⟩
  | .polyG3 _ _ _ _ _ _ _ => ⟨none, 0xFF000000#32, some 0x30000000#32⟩
  | .polyG3R _ _ _ _ _ _ _ => ⟨none, 0xFF000000#32, some 0x31000000#32⟩
  | .polyG3S _ _ _ _ _ _ _ => ⟨none, 0xFF000000#32, some 0x32000000#32⟩
  | .polyG3SR _ _ _ _ _ _ _ => ⟨none, 0xFF000000#32, some 0x33000000#32⟩
  | .polyG3T _ _ _ _ _ _ _ _ _ _ => ⟨none, 0xFF000000#32, some 0x34000000#32⟩
  | .polyG3TR _ _ _ _ _ _ _ _ _ _ => ⟨none, 0xFF000000#32, some 0x35000000#32⟩
  | .polyG3TS _ _ _ _ _ _ _ _ _ _ => ⟨none, 0xFF000000#32, some 0x36000000#32⟩
  | .polyG3TSR _ _ _ _ _ _ _ _ _ _ => ⟨none, 0xFF000000#32, some 0x37000000#32⟩
  | .polyG4 _ _ _ _ _ _ _ _ _ => ⟨none, 0xFF000000#32, some 0x38000000#32⟩
  | .polyG4R _ _ _ _ _ _ _ _ _ => ⟨none, 0xFF000000#32, some 0x39000000#32⟩
  | .polyG4S _ _ _ _ _ _ _ _ _ => ⟨none, 0xFF000000#32, some 0x3A000000#32⟩
  | .polyG4SR _ _ _ _ _ _ _ _ _ => ⟨none, 0xFF000000#32, some 0x3B000000#32⟩
  | .polyG4T _ _ _ _ _ _ _ _ _ _ _ _ _ => ⟨none, 0xFF000000#32, some 0x3C000000#32⟩
  | .polyG4TR _ _ _ _ _ _ _ _ _ _ _ _ _ => ⟨none, 0xFF000000#32, some 0x3D000000#32⟩
  | .polyG4TS _ _ _ _ _ _ _ _ _ _ _ _ _ => ⟨none, 0xFF000000#32, some 0x3E000000#32⟩
  | .polyG4TSR _ _ _ _ _ _ _ _ _ _ _ _ _ => ⟨none, 0xFF000000#32, some 0x3F000000#32⟩
  | .rectV _ _ _ _ => ⟨none, 0xFF000000#32, some 0x60000000#32⟩
  | .rectVR _ _ _ _ => ⟨none, 0xFF000000#32, some 0x61000000#32⟩
  | .rectVS _ _ _ _ => ⟨none, 0xFF000000#32, some 0x62000000#32⟩
  | .rectVSR _ _ _ _ => ⟨none, 0xFF000000#32, some 0x63000000#32⟩
  | .rectVT _ _ _ _ _ => ⟨none, 0xFF000000#32, some 0x64000000#32⟩
  | .rectVTR _ _ _ _ _ => ⟨none, 0xFF000000#32, some 0x65000000#32⟩
  | .rectVTS _ _ _ _ _ => ⟨none, 0xFF000000#32, some 0x66000000#32⟩
  | .rectVTSR _ _ _ _ _ => ⟨none, 0xFF000000#32, some 0x67000000#32⟩
  | .rect1 _ _ _ => ⟨none, 0xFF000000#32, some 0x68000000#32⟩
  | .rect1R _ _ _ => ⟨none, 0xFF000000#32, some 0x69000000#32⟩
  | .rect1S _ _ _ => ⟨none, 0xFF000000#32, some 0x6A000000#32⟩
  | .rect1SR _ _ _ => ⟨none, 0xFF000000#32, some 0x6B000000#32⟩
  | .rect1T _ _ _ _ => ⟨none, 0xFF000000#32, some 0x6C000000#32⟩
  | .rect1TR _ _ _ _ => ⟨none, 0xFF000000#32, some 0x6D000000#32⟩
  | .rect1TS _ _ _ _ => ⟨none, 0xFF000000#32, some 0x6E000000#32⟩
  | .rect1TSR _ _ _ _ => ⟨none, 0xFF000000#32, some 0x6F000000#32⟩
  | .rect8 _ _ _ => ⟨none, 0xFF000000#32, some 0x70000000#32⟩
  | .rect8R _ _ _ => ⟨none, 0xFF000000#32, some 0x71000000#32⟩
  | .rect8S _ _ _ => ⟨none, 0xFF000000#32, some 0x72000000#32⟩
  | .rect8SR _ _ _ => ⟨none, 0xFF000000#32, some 0x73000000#32⟩
  | .rect8T _ _ _ _ => ⟨none, 0xFF000000#32, some 0x74000000#32⟩
  | .rect8TR _ _ _ _ => ⟨none, 0xFF000000#32, some 0x75000000#32⟩
  | .rect8TS _ _ _ _ => ⟨none, 0xFF000000#32, some 0x76000000#32⟩
  | .rect8TSR _ _ _ _ => ⟨none, 0xFF000000#32, some 0x77000000#32⟩
  | .rect16 _ _ _ => ⟨none, 0xFF000000#32, some 0x78000000#32⟩
  | .rect16R _ _ _ => ⟨none, 0xFF000000#32, some 0x79000000#32⟩
  | .rect16S _ _ _ => ⟨none, 0xFF000000#32, some 0x7A000000#32⟩
  | .rect16SR _ _ _ => ⟨none, 0xFF000000#32, some 0x7B000000#32⟩
  | .rect16T _ _ _ _ => ⟨none, 0xFF000000#32, some 0x7C000000#32⟩
  | .rect16TR _ _ _ _ => ⟨none, 0xFF000000#32, some 0x7D000000#32⟩
  | .rect16TS _ _ _ _ => ⟨none, 0xFF000000#32, some 0x7E000000#32⟩
  | .rect16TSR _ _ _ _ => ⟨none, 0xFF000000#32, some 0x7F000000#32⟩
  | .xchg _ => ⟨none, 0x0#32, none⟩
  | .poll _ => ⟨none, 0x0#32, none⟩
  | .connect _ => ⟨none, 0x0#32, none⟩
  | .padNPoll _ _ => ⟨none, 0x0#32, some 0x0#32⟩
  | .padNCfg _ => ⟨none, 0xFF#32, some 0x43#32⟩
  | .padC42 _ _ _ _ _ _ _ => ⟨none, 0xFF#32, some 0x42#32⟩
  | .padC43 _ _ _ _ _ _ _ => ⟨none, 0xFF#32, some 0x43#32⟩
  | .padC44 _ _ _ _ _ _ _ => ⟨none, 0xFF#32, some 0x44#32⟩
  | .padC45 _ _ _ _ _ _ _ => ⟨none, 0xFF#32, some 0x45#32⟩
  | .padC46 _ _ _ _ _ _ _ => ⟨none, 0xFF#32, some 0x46#32⟩
  | .padC47 _ _ _ _ _ _ _ => ⟨none, 0xFF#32, some 0x47#32⟩
  | .padC4C _ _ _ _ _ _ _ => ⟨none, 0xFF#32, some 0x4C#32⟩
  | .padC4D _ _ _ _ _ _ _ => ⟨none, 0xFF#32, some 0x4D#32⟩

/-- The encoding has the access and width of the row, and its bits under the row's mask are the row's match. -/
def TableRow.Statement (i : Instr) : Prop :=
  Request.access (encode i) = (TableRow.row i).access ∧
    (Request.word (encode i)).map (fun w => w &&& (TableRow.row i).mask) = (TableRow.row i).fixed

theorem busWord (n : Chan) (off : Word) (h : off ∈ [0x0#32, 0x4#32, 0x8#32]) :
    some (channelAddr n off &&& 0xFFFFFF8F#32) = some (0x1F801080#32 + off) := by
  simp only [List.mem_cons, List.not_mem_nil, or_false] at h
  rcases h with rfl | rfl | rfl <;> revert n <;> decide

theorem busByte (n : Chan) (k : BitVec 2) (off : Word) (h : off ∈ [0x0#32, 0x4#32, 0x8#32]) :
    some (channelByteAddr n off k &&& 0xFFFFFF8C#32) = some (0x1F801080#32 + off) := by
  simp only [List.mem_cons, List.not_mem_nil, or_false] at h
  rcases h with rfl | rfl | rfl <;> revert n k <;> decide

theorem cmdWord_top (op : Byte) (c0 : BitVec 24) : cmdWord op c0 &&& 0xFF000000#32 = op ++ 0#24 := by
  have happ (y : BitVec 24) (i : Nat) : (op ++ y : Word).getLsbD i = if i < 24 then y.getLsbD i else op.getLsbD (i - 24) :=
    BitVec.getLsbD_append
  apply BitVec.eq_of_getLsbD_eq
  intro i hi
  rw [BitVec.getLsbD_and, cmdWord, happ, happ]
  interval_cases i <;> simp

theorem TableRow.rd32Base (n : Chan) : TableRow.Statement (.rd32Base n) :=
  ⟨rfl, busWord n 0x0#32 (by decide)⟩

theorem TableRow.wr32Base (n : Chan) (v : Word) : TableRow.Statement (.wr32Base n v) :=
  ⟨rfl, busWord n 0x0#32 (by decide)⟩

theorem TableRow.rd16Base (n : Chan) : TableRow.Statement (.rd16Base n) :=
  ⟨rfl, busWord n 0x0#32 (by decide)⟩

theorem TableRow.wr16Base (n : Chan) (h : Half) : TableRow.Statement (.wr16Base n h) :=
  ⟨rfl, busWord n 0x0#32 (by decide)⟩

theorem TableRow.wr32Block (n : Chan) (v : Word) : TableRow.Statement (.wr32Block n v) :=
  ⟨rfl, busWord n 0x4#32 (by decide)⟩

theorem TableRow.rd32Block (n : Chan) : TableRow.Statement (.rd32Block n) :=
  ⟨rfl, busWord n 0x4#32 (by decide)⟩

theorem TableRow.rd16Block (n : Chan) : TableRow.Statement (.rd16Block n) :=
  ⟨rfl, busWord n 0x4#32 (by decide)⟩

theorem TableRow.wr16Block (n : Chan) (h : Half) : TableRow.Statement (.wr16Block n h) :=
  ⟨rfl, busWord n 0x4#32 (by decide)⟩

theorem TableRow.rd32Ctrl (n : Chan) : TableRow.Statement (.rd32Ctrl n) :=
  ⟨rfl, busWord n 0x8#32 (by decide)⟩

theorem TableRow.wr32Ctrl (n : Chan) (v : Word) : TableRow.Statement (.wr32Ctrl n v) :=
  ⟨rfl, busWord n 0x8#32 (by decide)⟩

theorem TableRow.rd16Ctrl (n : Chan) : TableRow.Statement (.rd16Ctrl n) :=
  ⟨rfl, busWord n 0x8#32 (by decide)⟩

theorem TableRow.wr16Ctrl (n : Chan) (h : Half) : TableRow.Statement (.wr16Ctrl n h) :=
  ⟨rfl, busWord n 0x8#32 (by decide)⟩

theorem TableRow.rd8Base (n : Chan) (k : BitVec 2) : TableRow.Statement (.rd8Base n k) :=
  ⟨rfl, busByte n k 0x0#32 (by decide)⟩

theorem TableRow.wr8Base (n : Chan) (k : BitVec 2) (b : Byte) : TableRow.Statement (.wr8Base n k b) :=
  ⟨rfl, busByte n k 0x0#32 (by decide)⟩

theorem TableRow.rd8Block (n : Chan) (k : BitVec 2) : TableRow.Statement (.rd8Block n k) :=
  ⟨rfl, busByte n k 0x4#32 (by decide)⟩

theorem TableRow.wr8Block (n : Chan) (k : BitVec 2) (b : Byte) : TableRow.Statement (.wr8Block n k b) :=
  ⟨rfl, busByte n k 0x4#32 (by decide)⟩

theorem TableRow.rd8Ctrl (n : Chan) (k : BitVec 2) : TableRow.Statement (.rd8Ctrl n k) :=
  ⟨rfl, busByte n k 0x8#32 (by decide)⟩

theorem TableRow.wr8Ctrl (n : Chan) (k : BitVec 2) (b : Byte) : TableRow.Statement (.wr8Ctrl n k b) :=
  ⟨rfl, busByte n k 0x8#32 (by decide)⟩

theorem TableRow.rd32Dpcr : TableRow.Statement (.rd32Dpcr) :=
  ⟨rfl, rfl⟩

theorem TableRow.wr32Dpcr (v : Word) : TableRow.Statement (.wr32Dpcr v) :=
  ⟨rfl, congrArg some (by decide : 0x1F8010F0#32 &&& 0xFFFFFFFF#32 = 0x1F8010F0#32)⟩

theorem TableRow.rd16Dpcr : TableRow.Statement (.rd16Dpcr) :=
  ⟨rfl, rfl⟩

theorem TableRow.wr16Dpcr (h : Half) : TableRow.Statement (.wr16Dpcr h) :=
  ⟨rfl, congrArg some (by decide : 0x1F8010F0#32 &&& 0xFFFFFFFF#32 = 0x1F8010F0#32)⟩

theorem TableRow.rd32Dicr : TableRow.Statement (.rd32Dicr) :=
  ⟨rfl, rfl⟩

theorem TableRow.wr32Dicr (v : Word) : TableRow.Statement (.wr32Dicr v) :=
  ⟨rfl, congrArg some (by decide : 0x1F8010F4#32 &&& 0xFFFFFFFF#32 = 0x1F8010F4#32)⟩

theorem TableRow.rd16DicrL : TableRow.Statement (.rd16DicrL) :=
  ⟨rfl, rfl⟩

theorem TableRow.rd16DicrH : TableRow.Statement (.rd16DicrH) :=
  ⟨rfl, rfl⟩

theorem TableRow.wr16DicrL (h : Half) : TableRow.Statement (.wr16DicrL h) :=
  ⟨rfl, congrArg some (by decide : 0x1F8010F4#32 &&& 0xFFFFFFFF#32 = 0x1F8010F4#32)⟩

theorem TableRow.wr16DicrH (h : Half) : TableRow.Statement (.wr16DicrH h) :=
  ⟨rfl, congrArg some (by decide : 0x1F8010F6#32 &&& 0xFFFFFFFF#32 = 0x1F8010F6#32)⟩

theorem TableRow.rd8Dicr0 : TableRow.Statement (.rd8Dicr0) :=
  ⟨rfl, rfl⟩

theorem TableRow.rd8Dicr1 : TableRow.Statement (.rd8Dicr1) :=
  ⟨rfl, rfl⟩

theorem TableRow.rd8Dicr2 : TableRow.Statement (.rd8Dicr2) :=
  ⟨rfl, rfl⟩

theorem TableRow.rd8Dicr3 : TableRow.Statement (.rd8Dicr3) :=
  ⟨rfl, rfl⟩

theorem TableRow.wr8Dicr0 (b : Byte) : TableRow.Statement (.wr8Dicr0 b) :=
  ⟨rfl, congrArg some (by decide : 0x1F8010F4#32 &&& 0xFFFFFFFF#32 = 0x1F8010F4#32)⟩

theorem TableRow.wr8Dicr1 (b : Byte) : TableRow.Statement (.wr8Dicr1 b) :=
  ⟨rfl, congrArg some (by decide : 0x1F8010F5#32 &&& 0xFFFFFFFF#32 = 0x1F8010F5#32)⟩

theorem TableRow.wr8Dicr2 (b : Byte) : TableRow.Statement (.wr8Dicr2 b) :=
  ⟨rfl, congrArg some (by decide : 0x1F8010F6#32 &&& 0xFFFFFFFF#32 = 0x1F8010F6#32)⟩

theorem TableRow.wr8Dicr3 (b : Byte) : TableRow.Statement (.wr8Dicr3 b) :=
  ⟨rfl, congrArg some (by decide : 0x1F8010F7#32 &&& 0xFFFFFFFF#32 = 0x1F8010F7#32)⟩

theorem TableRow.setIrq (n : Nat) : TableRow.Statement (.setIrq n) :=
  ⟨rfl, rfl⟩

theorem TableRow.hasIrq : TableRow.Statement (.hasIrq) :=
  ⟨rfl, rfl⟩

theorem TableRow.irqEn (n : Nat) : TableRow.Statement (.irqEn n) :=
  ⟨rfl, rfl⟩

theorem TableRow.doneCh (n : Nat) : TableRow.Statement (.doneCh n) :=
  ⟨rfl, rfl⟩

theorem TableRow.triggerCh (n : Nat) : TableRow.Statement (.triggerCh n) :=
  ⟨rfl, rfl⟩

theorem TableRow.beginPrim (w0 : Word) (ctx : DrawCtx) : TableRow.Statement (.beginPrim w0 ctx) :=
  ⟨rfl, rfl⟩

theorem TableRow.addWord (w : Word) : TableRow.Statement (.addWord w) :=
  ⟨rfl, rfl⟩

theorem TableRow.ready : TableRow.Statement (.ready) :=
  ⟨rfl, rfl⟩

theorem TableRow.draw : TableRow.Statement (.draw) :=
  ⟨rfl, rfl⟩

theorem TableRow.polyF3 (ctx : PolyCtx) (c0 : BitVec 24) (p0 p1 p2 : Word) : TableRow.Statement (.polyF3 ctx c0 p0 p1 p2) :=
  ⟨rfl, congrArg some (cmdWord_top 0x20#8 c0)⟩

theorem TableRow.polyF3R (ctx : PolyCtx) (c0 : BitVec 24) (p0 p1 p2 : Word) : TableRow.Statement (.polyF3R ctx c0 p0 p1 p2) :=
  ⟨rfl, congrArg some (cmdWord_top 0x21#8 c0)⟩

theorem TableRow.polyF3S (ctx : PolyCtx) (c0 : BitVec 24) (p0 p1 p2 : Word) : TableRow.Statement (.polyF3S ctx c0 p0 p1 p2) :=
  ⟨rfl, congrArg some (cmdWord_top 0x22#8 c0)⟩

theorem TableRow.polyF3SR (ctx : PolyCtx) (c0 : BitVec 24) (p0 p1 p2 : Word) : TableRow.Statement (.polyF3SR ctx c0 p0 p1 p2) :=
  ⟨rfl, congrArg some (cmdWord_top 0x23#8 c0)⟩

theorem TableRow.polyF3T (ctx : PolyCtx) (c0 : BitVec 24) (p0 t0 p1 t1 p2 t2 : Word) : TableRow.Statement (.polyF3T ctx c0 p0 t0 p1 t1 p2 t2) :=
  ⟨rfl, congrArg some (cmdWord_top 0x24#8 c0)⟩

theorem TableRow.polyF3TR (ctx : PolyCtx) (c0 : BitVec 24) (p0 t0 p1 t1 p2 t2 : Word) : TableRow.Statement (.polyF3TR ctx c0 p0 t0 p1 t1 p2 t2) :=
  ⟨rfl, congrArg some (cmdWord_top 0x25#8 c0)⟩

theorem TableRow.polyF3TS (ctx : PolyCtx) (c0 : BitVec 24) (p0 t0 p1 t1 p2 t2 : Word) : TableRow.Statement (.polyF3TS ctx c0 p0 t0 p1 t1 p2 t2) :=
  ⟨rfl, congrArg some (cmdWord_top 0x26#8 c0)⟩

theorem TableRow.polyF3TSR (ctx : PolyCtx) (c0 : BitVec 24) (p0 t0 p1 t1 p2 t2 : Word) : TableRow.Statement (.polyF3TSR ctx c0 p0 t0 p1 t1 p2 t2) :=
  ⟨rfl, congrArg some (cmdWord_top 0x27#8 c0)⟩

theorem TableRow.polyF4 (ctx : PolyCtx) (c0 : BitVec 24) (p0 p1 p2 p3 : Word) : TableRow.Statement (.polyF4 ctx c0 p0 p1 p2 p3) :=
  ⟨rfl, congrArg some (cmdWord_top 0x28#8 c0)⟩

theorem TableRow.polyF4R (ctx : PolyCtx) (c0 : BitVec 24) (p0 p1 p2 p3 : Word) : TableRow.Statement (.polyF4R ctx c0 p0 p1 p2 p3) :=
  ⟨rfl, congrArg some (cmdWord_top 0x29#8 c0)⟩

theorem TableRow.polyF4S (ctx : PolyCtx) (c0 : BitVec 24) (p0 p1 p2 p3 : Word) : TableRow.Statement (.polyF4S ctx c0 p0 p1 p2 p3) :=
  ⟨rfl, congrArg some (cmdWord_top 0x2A#8 c0)⟩

theorem TableRow.polyF4SR (ctx : PolyCtx) (c0 : BitVec 24) (p0 p1 p2 p3 : Word) : TableRow.Statement (.polyF4SR ctx c0 p0 p1 p2 p3) :=
  ⟨rfl, congrArg some (cmdWord_top 0x2B#8 c0)⟩

theorem TableRow.polyF4T (ctx : PolyCtx) (c0 : BitVec 24) (p0 t0 p1 t1 p2 t2 p3 t3 : Word) : TableRow.Statement (.polyF4T ctx c0 p0 t0 p1 t1 p2 t2 p3 t3) :=
  ⟨rfl, congrArg some (cmdWord_top 0x2C#8 c0)⟩

theorem TableRow.polyF4TR (ctx : PolyCtx) (c0 : BitVec 24) (p0 t0 p1 t1 p2 t2 p3 t3 : Word) : TableRow.Statement (.polyF4TR ctx c0 p0 t0 p1 t1 p2 t2 p3 t3) :=
  ⟨rfl, congrArg some (cmdWord_top 0x2D#8 c0)⟩

theorem TableRow.polyF4TS (ctx : PolyCtx) (c0 : BitVec 24) (p0 t0 p1 t1 p2 t2 p3 t3 : Word) : TableRow.Statement (.polyF4TS ctx c0 p0 t0 p1 t1 p2 t2 p3 t3) :=
  ⟨rfl, congrArg some (cmdWord_top 0x2E#8 c0)⟩

theorem TableRow.polyF4TSR (ctx : PolyCtx) (c0 : BitVec 24) (p0 t0 p1 t1 p2 t2 p3 t3 : Word) : TableRow.Statement (.polyF4TSR ctx c0 p0 t0 p1 t1 p2 t2 p3 t3) :=
  ⟨rfl, congrArg some (cmdWord_top 0x2F#8 c0)⟩

theorem TableRow.polyG3 (ctx : PolyCtx) (c0 : BitVec 24) (p0 c1 p1 c2 p2 : Word) : TableRow.Statement (.polyG3 ctx c0 p0 c1 p1 c2 p2) :=
  ⟨rfl, congrArg some (cmdWord_top 0x30#8 c0)⟩

theorem TableRow.polyG3R (ctx : PolyCtx) (c0 : BitVec 24) (p0 c1 p1 c2 p2 : Word) : TableRow.Statement (.polyG3R ctx c0 p0 c1 p1 c2 p2) :=
  ⟨rfl, congrArg some (cmdWord_top 0x31#8 c0)⟩

theorem TableRow.polyG3S (ctx : PolyCtx) (c0 : BitVec 24) (p0 c1 p1 c2 p2 : Word) : TableRow.Statement (.polyG3S ctx c0 p0 c1 p1 c2 p2) :=
  ⟨rfl, congrArg some (cmdWord_top 0x32#8 c0)⟩

theorem TableRow.polyG3SR (ctx : PolyCtx) (c0 : BitVec 24) (p0 c1 p1 c2 p2 : Word) : TableRow.Statement (.polyG3SR ctx c0 p0 c1 p1 c2 p2) :=
  ⟨rfl, congrArg some (cmdWord_top 0x33#8 c0)⟩

theorem TableRow.polyG3T (ctx : PolyCtx) (c0 : BitVec 24) (p0 t0 c1 p1 t1 c2 p2 t2 : Word) : TableRow.Statement (.polyG3T ctx c0 p0 t0 c1 p1 t1 c2 p2 t2) :=
  ⟨rfl, congrArg some (cmdWord_top 0x34#8 c0)⟩

theorem TableRow.polyG3TR (ctx : PolyCtx) (c0 : BitVec 24) (p0 t0 c1 p1 t1 c2 p2 t2 : Word) : TableRow.Statement (.polyG3TR ctx c0 p0 t0 c1 p1 t1 c2 p2 t2) :=
  ⟨rfl, congrArg some (cmdWord_top 0x35#8 c0)⟩

theorem TableRow.polyG3TS (ctx : PolyCtx) (c0 : BitVec 24) (p0 t0 c1 p1 t1 c2 p2 t2 : Word) : TableRow.Statement (.polyG3TS ctx c0 p0 t0 c1 p1 t1 c2 p2 t2) :=
  ⟨rfl, congrArg some (cmdWord_top 0x36#8 c0)⟩

theorem TableRow.polyG3TSR (ctx : PolyCtx) (c0 : BitVec 24) (p0 t0 c1 p1 t1 c2 p2 t2 : Word) : TableRow.Statement (.polyG3TSR ctx c0 p0 t0 c1 p1 t1 c2 p2 t2) :=
  ⟨rfl, congrArg some (cmdWord_top 0x37#8 c0)⟩

theorem TableRow.polyG4 (ctx : PolyCtx) (c0 : BitVec 24) (p0 c1 p1 c2 p2 c3 p3 : Word) : TableRow.Statement (.polyG4 ctx c0 p0 c1 p1 c2 p2 c3 p3) :=
  ⟨rfl, congrArg some (cmdWord_top 0x38#8 c0)⟩

theorem TableRow.polyG4R (ctx : PolyCtx) (c0 : BitVec 24) (p0 c1 p1 c2 p2 c3 p3 : Word) : TableRow.Statement (.polyG4R ctx c0 p0 c1 p1 c2 p2 c3 p3) :=
  ⟨rfl, congrArg some (cmdWord_top 0x39#8 c0)⟩

theorem TableRow.polyG4S (ctx : PolyCtx) (c0 : BitVec 24) (p0 c1 p1 c2 p2 c3 p3 : Word) : TableRow.Statement (.polyG4S ctx c0 p0 c1 p1 c2 p2 c3 p3) :=
  ⟨rfl, congrArg some (cmdWord_top 0x3A#8 c0)⟩

theorem TableRow.polyG4SR (ctx : PolyCtx) (c0 : BitVec 24) (p0 c1 p1 c2 p2 c3 p3 : Word) : TableRow.Statement (.polyG4SR ctx c0 p0 c1 p1 c2 p2 c3 p3) :=
  ⟨rfl, congrArg some (cmdWord_top 0x3B#8 c0)⟩

theorem TableRow.polyG4T (ctx : PolyCtx) (c0 : BitVec 24) (p0 t0 c1 p1 t1 c2 p2 t2 c3 p3 t3 : Word) : TableRow.Statement (.polyG4T ctx c0 p0 t0 c1 p1 t1 c2 p2 t2 c3 p3 t3) :=
  ⟨rfl, congrArg some (cmdWord_top 0x3C#8 c0)⟩

theorem TableRow.polyG4TR (ctx : PolyCtx) (c0 : BitVec 24) (p0 t0 c1 p1 t1 c2 p2 t2 c3 p3 t3 : Word) : TableRow.Statement (.polyG4TR ctx c0 p0 t0 c1 p1 t1 c2 p2 t2 c3 p3 t3) :=
  ⟨rfl, congrArg some (cmdWord_top 0x3D#8 c0)⟩

theorem TableRow.polyG4TS (ctx : PolyCtx) (c0 : BitVec 24) (p0 t0 c1 p1 t1 c2 p2 t2 c3 p3 t3 : Word) : TableRow.Statement (.polyG4TS ctx c0 p0 t0 c1 p1 t1 c2 p2 t2 c3 p3 t3) :=
  ⟨rfl, congrArg some (cmdWord_top 0x3E#8 c0)⟩

theorem TableRow.polyG4TSR (ctx : PolyCtx) (c0 : BitVec 24) (p0 t0 c1 p1 t1 c2 p2 t2 c3 p3 t3 : Word) : TableRow.Statement (.polyG4TSR ctx c0 p0 t0 c1 p1 t1 c2 p2 t2 c3 p3 t3) :=
  ⟨rfl, congrArg some (cmdWord_top 0x3F#8 c0)⟩

theorem TableRow.rectV (ctx : DrawCtx) (c0 : BitVec 24) (p0 dim : Word) : TableRow.Statement (.rectV ctx c0 p0 dim) :=
  ⟨rfl, congrArg some (cmdWord_top 0x60#8 c0)⟩

theorem TableRow.rectVR (ctx : DrawCtx) (c0 : BitVec 24) (p0 dim : Word) : TableRow.Statement (.rectVR ctx c0 p0 dim) :=
  ⟨rfl, congrArg some (cmdWord_top 0x61#8 c0)⟩

theorem TableRow.rectVS (ctx : DrawCtx) (c0 : BitVec 24) (p0 dim : Word) : TableRow.Statement (.rectVS ctx c0 p0 dim) :=
  ⟨rfl, congrArg some (cmdWord_top 0x62#8 c0)⟩

theorem TableRow.rectVSR (ctx : DrawCtx) (c0 : BitVec 24) (p0 dim : Word) : TableRow.Statement (.rectVSR ctx c0 p0 dim) :=
  ⟨rfl, congrArg some (cmdWord_top 0x63#8 c0)⟩

theorem TableRow.rectVT (ctx : DrawCtx) (c0 : BitVec 24) (p0 t0 dim : Word) : TableRow.Statement (.rectVT ctx c0 p0 t0 dim) :=
  ⟨rfl, congrArg some (cmdWord_top 0x64#8 c0)⟩

theorem TableRow.rectVTR (ctx : DrawCtx) (c0 : BitVec 24) (p0 t0 dim : Word) : TableRow.Statement (.rectVTR ctx c0 p0 t0 dim) :=
  ⟨rfl, congrArg some (cmdWord_top 0x65#8 c0)⟩

theorem TableRow.rectVTS (ctx : DrawCtx) (c0 : BitVec 24) (p0 t0 dim : Word) : TableRow.Statement (.rectVTS ctx c0 p0 t0 dim) :=
  ⟨rfl, congrArg some (cmdWord_top 0x66#8 c0)⟩

theorem TableRow.rectVTSR (ctx : DrawCtx) (c0 : BitVec 24) (p0 t0 dim : Word) : TableRow.Statement (.rectVTSR ctx c0 p0 t0 dim) :=
  ⟨rfl, congrArg some (cmdWord_top 0x67#8 c0)⟩

theorem TableRow.rect1 (ctx : DrawCtx) (c0 : BitVec 24) (p0 : Word) : TableRow.Statement (.rect1 ctx c0 p0) :=
  ⟨rfl, congrArg some (cmdWord_top 0x68#8 c0)⟩

theorem TableRow.rect1R (ctx : DrawCtx) (c0 : BitVec 24) (p0 : Word) : TableRow.Statement (.rect1R ctx c0 p0) :=
  ⟨rfl, congrArg some (cmdWord_top 0x69#8 c0)⟩

theorem TableRow.rect1S (ctx : DrawCtx) (c0 : BitVec 24) (p0 : Word) : TableRow.Statement (.rect1S ctx c0 p0) :=
  ⟨rfl, congrArg some (cmdWord_top 0x6A#8 c0)⟩

theorem TableRow.rect1SR (ctx : DrawCtx) (c0 : BitVec 24) (p0 : Word) : TableRow.Statement (.rect1SR ctx c0 p0) :=
  ⟨rfl, congrArg some (cmdWord_top 0x6B#8 c0)⟩

theorem TableRow.rect1T (ctx : DrawCtx) (c0 : BitVec 24) (p0 t0 : Word) : TableRow.Statement (.rect1T ctx c0 p0 t0) :=
  ⟨rfl, congrArg some (cmdWord_top 0x6C#8 c0)⟩

theorem TableRow.rect1TR (ctx : DrawCtx) (c0 : BitVec 24) (p0 t0 : Word) : TableRow.Statement (.rect1TR ctx c0 p0 t0) :=
  ⟨rfl, congrArg some (cmdWord_top 0x6D#8 c0)⟩

theorem TableRow.rect1TS (ctx : DrawCtx) (c0 : BitVec 24) (p0 t0 : Word) : TableRow.Statement (.rect1TS ctx c0 p0 t0) :=
  ⟨rfl, congrArg some (cmdWord_top 0x6E#8 c0)⟩

theorem TableRow.rect1TSR (ctx : DrawCtx) (c0 : BitVec 24) (p0 t0 : Word) : TableRow.Statement (.rect1TSR ctx c0 p0 t0) :=
  ⟨rfl, congrArg some (cmdWord_top 0x6F#8 c0)⟩

theorem TableRow.rect8 (ctx : DrawCtx) (c0 : BitVec 24) (p0 : Word) : TableRow.Statement (.rect8 ctx c0 p0) :=
  ⟨rfl, congrArg some (cmdWord_top 0x70#8 c0)⟩

theorem TableRow.rect8R (ctx : DrawCtx) (c0 : BitVec 24) (p0 : Word) : TableRow.Statement (.rect8R ctx c0 p0) :=
  ⟨rfl, congrArg some (cmdWord_top 0x71#8 c0)⟩

theorem TableRow.rect8S (ctx : DrawCtx) (c0 : BitVec 24) (p0 : Word) : TableRow.Statement (.rect8S ctx c0 p0) :=
  ⟨rfl, congrArg some (cmdWord_top 0x72#8 c0)⟩

theorem TableRow.rect8SR (ctx : DrawCtx) (c0 : BitVec 24) (p0 : Word) : TableRow.Statement (.rect8SR ctx c0 p0) :=
  ⟨rfl, congrArg some (cmdWord_top 0x73#8 c0)⟩

theorem TableRow.rect8T (ctx : DrawCtx) (c0 : BitVec 24) (p0 t0 : Word) : TableRow.Statement (.rect8T ctx c0 p0 t0) :=
  ⟨rfl, congrArg some (cmdWord_top 0x74#8 c0)⟩

theorem TableRow.rect8TR (ctx : DrawCtx) (c0 : BitVec 24) (p0 t0 : Word) : TableRow.Statement (.rect8TR ctx c0 p0 t0) :=
  ⟨rfl, congrArg some (cmdWord_top 0x75#8 c0)⟩

theorem TableRow.rect8TS (ctx : DrawCtx) (c0 : BitVec 24) (p0 t0 : Word) : TableRow.Statement (.rect8TS ctx c0 p0 t0) :=
  ⟨rfl, congrArg some (cmdWord_top 0x76#8 c0)⟩

theorem TableRow.rect8TSR (ctx : DrawCtx) (c0 : BitVec 24) (p0 t0 : Word) : TableRow.Statement (.rect8TSR ctx c0 p0 t0) :=
  ⟨rfl, congrArg some (cmdWord_top 0x77#8 c0)⟩

theorem TableRow.rect16 (ctx : DrawCtx) (c0 : BitVec 24) (p0 : Word) : TableRow.Statement (.rect16 ctx c0 p0) :=
  ⟨rfl, congrArg some (cmdWord_top 0x78#8 c0)⟩

theorem TableRow.rect16R (ctx : DrawCtx) (c0 : BitVec 24) (p0 : Word) : TableRow.Statement (.rect16R ctx c0 p0) :=
  ⟨rfl, congrArg some (cmdWord_top 0x79#8 c0)⟩

theorem TableRow.rect16S (ctx : DrawCtx) (c0 : BitVec 24) (p0 : Word) : TableRow.Statement (.rect16S ctx c0 p0) :=
  ⟨rfl, congrArg some (cmdWord_top 0x7A#8 c0)⟩

theorem TableRow.rect16SR (ctx : DrawCtx) (c0 : BitVec 24) (p0 : Word) : TableRow.Statement (.rect16SR ctx c0 p0) :=
  ⟨rfl, congrArg some (cmdWord_top 0x7B#8 c0)⟩

theorem TableRow.rect16T (ctx : DrawCtx) (c0 : BitVec 24) (p0 t0 : Word) : TableRow.Statement (.rect16T ctx c0 p0 t0) :=
  ⟨rfl, congrArg some (cmdWord_top 0x7C#8 c0)⟩

theorem TableRow.rect16TR (ctx : DrawCtx) (c0 : BitVec 24) (p0 t0 : Word) : TableRow.Statement (.rect16TR ctx c0 p0 t0) :=
  ⟨rfl, congrArg some (cmdWord_top 0x7D#8 c0)⟩

theorem TableRow.rect16TS (ctx : DrawCtx) (c0 : BitVec 24) (p0 t0 : Word) : TableRow.Statement (.rect16TS ctx c0 p0 t0) :=
  ⟨rfl, congrArg some (cmdWord_top 0x7E#8 c0)⟩

theorem TableRow.rect16TSR (ctx : DrawCtx) (c0 : BitVec 24) (p0 t0 : Word) : TableRow.Statement (.rect16TSR ctx c0 p0 t0) :=
  ⟨rfl, congrArg some (cmdWord_top 0x7F#8 c0)⟩

theorem TableRow.xchg (d : Byte) : TableRow.Statement (.xchg d) :=
  ⟨rfl, rfl⟩

theorem TableRow.poll (snap : Snapshot) : TableRow.Statement (.poll snap) :=
  ⟨rfl, rfl⟩

theorem TableRow.connect (c : Bool) : TableRow.Statement (.connect c) :=
  ⟨rfl, rfl⟩

theorem TableRow.padNPoll (b0 : Byte) (data : List Byte) : TableRow.Statement (.padNPoll b0 data) :=
  ⟨rfl, by simp [Request.word, encode, TableRow.row]⟩

theorem TableRow.padNCfg (data : List Byte) : TableRow.Statement (.padNCfg data) :=
  ⟨rfl, congrArg some (by decide : (0x43#8).setWidth 32 &&& 0xFF#32 = 0x43#32)⟩

theorem TableRow.padC42 (d1 d2 d3 d4 d5 d6 d7 : Byte) : TableRow.Statement (.padC42 d1 d2 d3 d4 d5 d6 d7) :=
  ⟨rfl, congrArg some (by decide : (0x42#8).setWidth 32 &&& 0xFF#32 = 0x42#32)⟩

theorem TableRow.padC43 (d1 d2 d3 d4 d5 d6 d7 : Byte) : TableRow.Statement (.padC43 d1 d2 d3 d4 d5 d6 d7) :=
  ⟨rfl, congrArg some (by decide : (0x43#8).setWidth 32 &&& 0xFF#32 = 0x43#32)⟩

theorem TableRow.padC44 (d1 d2 d3 d4 d5 d6 d7 : Byte) : TableRow.Statement (.padC44 d1 d2 d3 d4 d5 d6 d7) :=
  ⟨rfl, congrArg some (by decide : (0x44#8).setWidth 32 &&& 0xFF#32 = 0x44#32)⟩

theorem TableRow.padC45 (d1 d2 d3 d4 d5 d6 d7 : Byte) : TableRow.Statement (.padC45 d1 d2 d3 d4 d5 d6 d7) :=
  ⟨rfl, congrArg some (by decide : (0x45#8).setWidth 32 &&& 0xFF#32 = 0x45#32)⟩

theorem TableRow.padC46 (d1 d2 d3 d4 d5 d6 d7 : Byte) : TableRow.Statement (.padC46 d1 d2 d3 d4 d5 d6 d7) :=
  ⟨rfl, congrArg some (by decide : (0x46#8).setWidth 32 &&& 0xFF#32 = 0x46#32)⟩

theorem TableRow.padC47 (d1 d2 d3 d4 d5 d6 d7 : Byte) : TableRow.Statement (.padC47 d1 d2 d3 d4 d5 d6 d7) :=
  ⟨rfl, congrArg some (by decide : (0x47#8).setWidth 32 &&& 0xFF#32 = 0x47#32)⟩

theorem TableRow.padC4C (d1 d2 d3 d4 d5 d6 d7 : Byte) : TableRow.Statement (.padC4C d1 d2 d3 d4 d5 d6 d7) :=
  ⟨rfl, congrArg some (by decide : (0x4C#8).setWidth 32 &&& 0xFF#32 = 0x4C#32)⟩

theorem TableRow.padC4D (d1 d2 d3 d4 d5 d6 d7 : Byte) : TableRow.Statement (.padC4D d1 d2 d3 d4 d5 d6 d7) :=
  ⟨rfl, congrArg some (by decide : (0x4D#8).setWidth 32 &&& 0xFF#32 = 0x4D#32)⟩

end Sys2Proof.Laws
end

