-- ==== Sys2Proof/Tests/Slice0.lean ====
section
/-! SUPPORT. The model's own tests: ill-formed terms refused by each check, every constructor decoded from a word written out from the
encoding tables of the spec, single steps from spec/95_test_vectors.md, and for each obligation with hypotheses states and operands that
meet them. Expected values come from the spec; the vector's name stands beside each. -/

namespace Sys2Proof.Tests

open Sys2Proof Sys2Proof.Machine

/-! ## Helpers -/

/-- The reset state. -/
def s0 : State := State.reset

/-- Reset with the conforming engine bound. -/
def bound : State := bindEngine 0 State.reset

/-- Inside a transfer engine invocation. -/
def busy : State := { bound with dma := { bound.dma with inCallback := true } }

/-- Inside a channel-control write of channel `n` (linked list, enabled), its fields stored, the engine not yet invoked. -/
def dispatchOn (n : Chan) (s : State) : State :=
  { s with dma := (s.dma.setChan n (loadCtrl 0x01000401 .linkedList (s.dma.chan n))).startDispatch n }

/-- Reset with other DICR fields. -/
def dicr (cic : BitVec 7) (busError : Bool) (mask : BitVec 7) (masterEnable : Bool) (flags : BitVec 7) : State :=
  { bound with dma := { bound.dma with cic := cic, busError := busError, mask := mask, masterEnable := masterEnable, flags := flags } }

/-- A connected pad. -/
def padAt (mode : PadMode) (analog : Bool) (seq : Nat) (cmd : Byte) : State :=
  { s0 with
    pad := { s0.pad with
      connected := true, mode := mode, analog := analog, seq := seq, cmd := cmd, buttons := 0xBFFF, rightX := 0x7F, rightY := 0x7F,
      leftX := 0x00, leftY := 0xFF } }

/-- The state after an operation that completes, reset otherwise. -/
def after (o : Out) : State :=
  match o with
  | .next s => s
  | .fault _ => s0
  | .refused _ => s0

/-- Operations one after another. -/
def runAll (is : List Instr) (s : State) : State := is.foldl (fun s i => after (exec i s)) s

/-- Why an operation was refused. -/
def refusal (o : Out) : Option Refusal :=
  match o with
  | .refused r => some r
  | _ => none

/-- What an operation handed back. -/
def result (i : Instr) (s : State) : Result := (after (exec i s)).result

/-- What DICR reads as. -/
def dicrWord (s : State) : Result := result .rd32Dicr s

/-- Whether a request decodes to that operation. -/
def decodesTo (r : Request) (i : Instr) : Bool :=
  match decode r with
  | .ok j => j == i
  | .error _ => false

/-- Whether a request is rejected as an unhandled address. -/
def unhandled (r : Request) (addr : Word) : Bool :=
  match decode r with
  | .ok _ => false
  | .error e => e == .unhandledAddress addr

/-- The context of vectors G1 to G4 and G6. -/
def gctx : PolyCtx := { ditherEnable := true, globalBlend := 2 }

/-- The context of the rectangle vectors. -/
def rctx : DrawCtx := { ditherEnable := true, globalBlend := 2, page := 0x0105, depth := 1 }

/-- The position, colour and texture coordinates of a record. -/
structure Brief where
  x : Int
  y : Int
  r : Byte
  g : Byte
  b : Byte
  u : Half
  v : Half
deriving DecidableEq

/-- The shared fields of a record. -/
structure Shared where
  clut : Half
  page : Half
  texMode : TexMode
  dither : Bool
  transMode : TransMode
deriving DecidableEq

/-- The first half of a record. -/
def brief (v : VertexInfo) : Brief := ⟨v.x.toInt, v.y.toInt, v.r, v.g, v.b, v.u, v.v⟩

/-- The second half of a record. -/
def shared (v : VertexInfo) : Shared := ⟨v.clut, v.page, v.texMode, v.dither, v.transMode⟩

/-- The records of the triangles an operation emits from reset, three a triangle. -/
def emitted (i : Instr) : List Brief :=
  (after (exec i s0)).toRenderer.flatMap (fun t => [brief t.a, brief t.b, brief t.c])

/-- The shared fields of every record an operation emits from reset. -/
def emittedShared (i : Instr) : List Shared :=
  (after (exec i s0)).toRenderer.flatMap (fun t => [shared t.a, shared t.b, shared t.c])

/-- Expected word count of the primitive, triangles emitted. -/
def counts (i : Instr) : Option Nat × Nat := (expectedOf (after (exec i s0)).gpa.prim, (after (exec i s0)).toRenderer.length)

/-- The profile of spec/45_pad_input.md R322. -/
def exampleProfile : Profile :=
  { btn := [(0, 14), (1, 13), (7, 3), (8, 1), (9, 2)], btn_functional := by decide, btn_injective := by decide, iRX := 2, iRY := 3,
    iLX := 0, iLY := 1, chord := [8, 9], chord_nonempty := by decide }

/-- A rational. -/
def q (num : Int) (den : Nat) : AxisValue := { num := num, den := den }

/-- A snapshot of `padA` with its four axes. -/
def snapA (down : List Nat) (a0 a1 a2 a3 : Int) : Snapshot :=
  { name := "padA", down := down, axes := [(0, q a0 1), (1, q a1 1), (2, q a2 1), (3, q a3 1)], restAxes := none }

/-- Polls one after another with the example profile. -/
def polls (snaps : List Snapshot) (p : Pad) : Option Pad := snaps.foldl (fun p sn => p.bind (pollPad exampleProfile sn)) (some p)

/-- What a poll shows. -/
structure PollView where
  buttons : Half
  axes : List Byte
  analog : Bool
  chordPrev : Bool
deriving DecidableEq

/-- What the polled pad shows. -/
def pollView (p : Option Pad) : Option PollView :=
  p.map (fun p => ⟨p.buttons, [p.rightX, p.rightY, p.leftX, p.leftY], p.analog, p.chordPrev⟩)

/-! ## WellFormed: an ill-formed term for each check -/

theorem test_illformed_channels :
    (Instr.setIrq 7).wellFormed = false ∧ (Instr.irqEn 7).wellFormed = false ∧ (Instr.doneCh 7).wellFormed = false ∧
      (Instr.triggerCh 7).wellFormed = false := by decide

theorem test_illformed_begin :
    (Instr.beginPrim 0x40000000 rctx).wellFormed = false ∧ (Instr.beginPrim 0x1FFFFFFF rctx).wellFormed = false ∧
      (Instr.beginPrim 0x80000000 rctx).wellFormed = false := by decide

theorem test_illformed_poll_axis_above_one :
    (Instr.poll { name := "padA", down := [], axes := [(0, q 2 1)], restAxes := none }).wellFormed = false := by decide

theorem test_illformed_poll_axis_no_number :
    (Instr.poll { name := "padA", down := [], axes := [(0, q 0 0)], restAxes := none }).wellFormed = false := by decide

theorem test_illformed_poll_axis_twice :
    (Instr.poll { name := "padA", down := [], axes := [(0, q 0 1), (0, q 1 1)], restAxes := none }).wellFormed = false := by decide

theorem test_illformed_poll_other_axes :
    (Instr.poll { name := "padA", down := [], axes := [], restAxes := some (q (-2) 1) }).wellFormed = false := by decide

theorem test_illformed_dialogues :
    (Instr.padNPoll 0x43 [0, 0, 0]).wellFormed = false ∧ (Instr.padNPoll 0x42 [0, 0]).wellFormed = false ∧
      (Instr.padNCfg [0]).wellFormed = false := by decide

theorem test_wellformed :
    (Instr.setIrq 6).wellFormed = true ∧ (Instr.beginPrim 0x60FFFFFF rctx).wellFormed = true ∧
      (Instr.poll (snapA [8, 9] 1 (-1) 0 0)).wellFormed = true ∧ (Instr.padNPoll 0x42 [0, 0, 0]).wellFormed = true ∧
      (Instr.padNCfg [0, 1]).wellFormed = true := by decide

/-! ## Decoding: a word written out from the encoding tables for every constructor -/

/-- 30_encoding.md R136: 32-bit accesses; channel 5 stands at 0x1F8010D0. -/
theorem test_decode_words :
    decodesTo (.busRead32 0x1F8010D0) (.rd32Base 5) ∧
      decodesTo (.busWrite32 0x1F8010D0 0x89ABCDEF) (.wr32Base 5 0x89ABCDEF) ∧
      decodesTo (.busWrite32 0x1F8010D4 0x89ABCDEF) (.wr32Block 5 0x89ABCDEF) ∧
      decodesTo (.busRead32 0x1F8010D4) (.rd32Block 5) ∧
      decodesTo (.busRead32 0x1F8010D8) (.rd32Ctrl 5) ∧
      decodesTo (.busWrite32 0x1F8010D8 0x89ABCDEF) (.wr32Ctrl 5 0x89ABCDEF) ∧
      decodesTo (.busRead32 0x1F8010F0) .rd32Dpcr ∧
      decodesTo (.busWrite32 0x1F8010F0 0x89ABCDEF) (.wr32Dpcr 0x89ABCDEF) ∧
      decodesTo (.busRead32 0x1F8010F4) .rd32Dicr ∧
      decodesTo (.busWrite32 0x1F8010F4 0x89ABCDEF) (.wr32Dicr 0x89ABCDEF) := by decide

/-- 30_encoding.md R136, 20_memory.md R80: 16-bit accesses. -/
theorem test_decode_halves :
    decodesTo (.busRead16 0x1F8010D0) (.rd16Base 5) ∧
      decodesTo (.busWrite16 0x1F8010D0 0xBEEF) (.wr16Base 5 0xBEEF) ∧
      decodesTo (.busRead16 0x1F8010D4) (.rd16Block 5) ∧
      decodesTo (.busWrite16 0x1F8010D4 0xBEEF) (.wr16Block 5 0xBEEF) ∧
      decodesTo (.busRead16 0x1F8010D8) (.rd16Ctrl 5) ∧
      decodesTo (.busWrite16 0x1F8010D8 0xBEEF) (.wr16Ctrl 5 0xBEEF) ∧
      decodesTo (.busRead16 0x1F8010F0) .rd16Dpcr ∧
      decodesTo (.busWrite16 0x1F8010F0 0xBEEF) (.wr16Dpcr 0xBEEF) ∧
      decodesTo (.busRead16 0x1F8010F4) .rd16DicrL ∧
      decodesTo (.busRead16 0x1F8010F6) .rd16DicrH ∧
      decodesTo (.busWrite16 0x1F8010F4 0xBEEF) (.wr16DicrL 0xBEEF) ∧
      decodesTo (.busWrite16 0x1F8010F6 0xBEEF) (.wr16DicrH 0xBEEF) := by decide

/-- 20_memory.md R81, 40 R145, R150, R157: 8-bit accesses; byte 3 of a channel register. -/
theorem test_decode_bytes :
    decodesTo (.busRead8 0x1F8010D3) (.rd8Base 5 3) ∧
      decodesTo (.busWrite8 0x1F8010D3 0xA5) (.wr8Base 5 3 0xA5) ∧
      decodesTo (.busRead8 0x1F8010D7) (.rd8Block 5 3) ∧
      decodesTo (.busWrite8 0x1F8010D7 0xA5) (.wr8Block 5 3 0xA5) ∧
      decodesTo (.busRead8 0x1F8010DB) (.rd8Ctrl 5 3) ∧
      decodesTo (.busWrite8 0x1F8010DB 0xA5) (.wr8Ctrl 5 3 0xA5) ∧
      decodesTo (.busRead8 0x1F8010F4) .rd8Dicr0 ∧
      decodesTo (.busRead8 0x1F8010F5) .rd8Dicr1 ∧
      decodesTo (.busRead8 0x1F8010F6) .rd8Dicr2 ∧
      decodesTo (.busRead8 0x1F8010F7) .rd8Dicr3 ∧
      decodesTo (.busWrite8 0x1F8010F4 0xA5) (.wr8Dicr0 0xA5) ∧
      decodesTo (.busWrite8 0x1F8010F5 0xA5) (.wr8Dicr1 0xA5) ∧
      decodesTo (.busWrite8 0x1F8010F6 0xA5) (.wr8Dicr2 0xA5) ∧
      decodesTo (.busWrite8 0x1F8010F7 0xA5) (.wr8Dicr3 0xA5) := by decide

/-- 30_encoding.md R137 to R139: the calls. -/
theorem test_decode_calls :
    decodesTo (.callSetIrq 4) (.setIrq 4) ∧
      decodesTo .callHasIrq .hasIrq ∧
      decodesTo (.callIsIrqEnabled 6) (.irqEn 6) ∧
      decodesTo (.callDone 0) (.doneCh 0) ∧
      decodesTo (.traceTrigger 2) (.triggerCh 2) ∧
      decodesTo (.gpaBegin 0x200000FF rctx) (.beginPrim 0x200000FF rctx) ∧
      decodesTo (.gpaAdd 0x00100010) (.addWord 0x00100010) ∧
      decodesTo .gpaIsReady .ready ∧
      decodesTo .gpaDraw .draw ∧
      decodesTo (.exchange 0x42) (.xchg 0x42) ∧
      decodesTo (.readInput (snapA [8] 0 0 0 0)) (.poll (snapA [8] 0 0 0 0)) ∧
      decodesTo (.setConnected true) (.connect true) := by decide

/-- 30_encoding.md R112, R113, R134: the top byte of the first word, its colour, the words after it. -/
theorem test_decode_polyF_0 :
    decodesTo (.primitive gctx.toDraw [0x20A1B2C3, 0x01020304, 0x12131415, 0x23242526])
        (.polyF3 gctx 0xA1B2C3 0x01020304 0x12131415 0x23242526) ∧
      decodesTo (.primitive gctx.toDraw [0x21A1B2C3, 0x01020304, 0x12131415, 0x23242526])
        (.polyF3R gctx 0xA1B2C3 0x01020304 0x12131415 0x23242526) ∧
      decodesTo (.primitive gctx.toDraw [0x22A1B2C3, 0x01020304, 0x12131415, 0x23242526])
        (.polyF3S gctx 0xA1B2C3 0x01020304 0x12131415 0x23242526) ∧
      decodesTo (.primitive gctx.toDraw [0x23A1B2C3, 0x01020304, 0x12131415, 0x23242526])
        (.polyF3SR gctx 0xA1B2C3 0x01020304 0x12131415 0x23242526) ∧
      decodesTo (.primitive gctx.toDraw [0x24A1B2C3, 0x01020304, 0x12131415, 0x23242526, 0x34353637, 0x45464748, 0x56575859])
        (.polyF3T gctx 0xA1B2C3 0x01020304 0x12131415 0x23242526 0x34353637 0x45464748 0x56575859) ∧
      decodesTo (.primitive gctx.toDraw [0x25A1B2C3, 0x01020304, 0x12131415, 0x23242526, 0x34353637, 0x45464748, 0x56575859])
        (.polyF3TR gctx 0xA1B2C3 0x01020304 0x12131415 0x23242526 0x34353637 0x45464748 0x56575859) ∧
      decodesTo (.primitive gctx.toDraw [0x26A1B2C3, 0x01020304, 0x12131415, 0x23242526, 0x34353637, 0x45464748, 0x56575859])
        (.polyF3TS gctx 0xA1B2C3 0x01020304 0x12131415 0x23242526 0x34353637 0x45464748 0x56575859) ∧
      decodesTo (.primitive gctx.toDraw [0x27A1B2C3, 0x01020304, 0x12131415, 0x23242526, 0x34353637, 0x45464748, 0x56575859])
        (.polyF3TSR gctx 0xA1B2C3 0x01020304 0x12131415 0x23242526 0x34353637 0x45464748 0x56575859) := by decide

/-- 30_encoding.md R112, R113, R134: the top byte of the first word, its colour, the words after it. -/
theorem test_decode_polyF_1 :
    decodesTo (.primitive gctx.toDraw [0x28A1B2C3, 0x01020304, 0x12131415, 0x23242526, 0x34353637])
        (.polyF4 gctx 0xA1B2C3 0x01020304 0x12131415 0x23242526 0x34353637) ∧
      decodesTo (.primitive gctx.toDraw [0x29A1B2C3, 0x01020304, 0x12131415, 0x23242526, 0x34353637])
        (.polyF4R gctx 0xA1B2C3 0x01020304 0x12131415 0x23242526 0x34353637) ∧
      decodesTo (.primitive gctx.toDraw [0x2AA1B2C3, 0x01020304, 0x12131415, 0x23242526, 0x34353637])
        (.polyF4S gctx 0xA1B2C3 0x01020304 0x12131415 0x23242526 0x34353637) ∧
      decodesTo (.primitive gctx.toDraw [0x2BA1B2C3, 0x01020304, 0x12131415, 0x23242526, 0x34353637])
        (.polyF4SR gctx 0xA1B2C3 0x01020304 0x12131415 0x23242526 0x34353637) ∧
      decodesTo (.primitive gctx.toDraw [0x2CA1B2C3, 0x01020304, 0x12131415, 0x23242526, 0x34353637, 0x45464748, 0x56575859, 0x6768696A, 0x78797A7B])
        (.polyF4T gctx 0xA1B2C3 0x01020304 0x12131415 0x23242526 0x34353637 0x45464748 0x56575859 0x6768696A 0x78797A7B) ∧
      decodesTo (.primitive gctx.toDraw [0x2DA1B2C3, 0x01020304, 0x12131415, 0x23242526, 0x34353637, 0x45464748, 0x56575859, 0x6768696A, 0x78797A7B])
        (.polyF4TR gctx 0xA1B2C3 0x01020304 0x12131415 0x23242526 0x34353637 0x45464748 0x56575859 0x6768696A 0x78797A7B) ∧
      decodesTo (.primitive gctx.toDraw [0x2EA1B2C3, 0x01020304, 0x12131415, 0x23242526, 0x34353637, 0x45464748, 0x56575859, 0x6768696A, 0x78797A7B])
        (.polyF4TS gctx 0xA1B2C3 0x01020304 0x12131415 0x23242526 0x34353637 0x45464748 0x56575859 0x6768696A 0x78797A7B) ∧
      decodesTo (.primitive gctx.toDraw [0x2FA1B2C3, 0x01020304, 0x12131415, 0x23242526, 0x34353637, 0x45464748, 0x56575859, 0x6768696A, 0x78797A7B])
        (.polyF4TSR gctx 0xA1B2C3 0x01020304 0x12131415 0x23242526 0x34353637 0x45464748 0x56575859 0x6768696A 0x78797A7B) := by decide

/-- 30_encoding.md R112, R113, R134: the top byte of the first word, its colour, the words after it. -/
theorem test_decode_polyG_0 :
    decodesTo (.primitive gctx.toDraw [0x30A1B2C3, 0x01020304, 0x12131415, 0x23242526, 0x34353637, 0x45464748])
        (.polyG3 gctx 0xA1B2C3 0x01020304 0x12131415 0x23242526 0x34353637 0x45464748) ∧
      decodesTo (.primitive gctx.toDraw [0x31A1B2C3, 0x01020304, 0x12131415, 0x23242526, 0x34353637, 0x45464748])
        (.polyG3R gctx 0xA1B2C3 0x01020304 0x12131415 0x23242526 0x34353637 0x45464748) ∧
      decodesTo (.primitive gctx.toDraw [0x32A1B2C3, 0x01020304, 0x12131415, 0x23242526, 0x34353637, 0x45464748])
        (.polyG3S gctx 0xA1B2C3 0x01020304 0x12131415 0x23242526 0x34353637 0x45464748) ∧
      decodesTo (.primitive gctx.toDraw [0x33A1B2C3, 0x01020304, 0x12131415, 0x23242526, 0x34353637, 0x45464748])
        (.polyG3SR gctx 0xA1B2C3 0x01020304 0x12131415 0x23242526 0x34353637 0x45464748) ∧
      decodesTo (.primitive gctx.toDraw [0x34A1B2C3, 0x01020304, 0x12131415, 0x23242526, 0x34353637, 0x45464748, 0x56575859, 0x6768696A, 0x78797A7B])
        (.polyG3T gctx 0xA1B2C3 0x01020304 0x12131415 0x23242526 0x34353637 0x45464748 0x56575859 0x6768696A 0x78797A7B) ∧
      decodesTo (.primitive gctx.toDraw [0x35A1B2C3, 0x01020304, 0x12131415, 0x23242526, 0x34353637, 0x45464748, 0x56575859, 0x6768696A, 0x78797A7B])
        (.polyG3TR gctx 0xA1B2C3 0x01020304 0x12131415 0x23242526 0x34353637 0x45464748 0x56575859 0x6768696A 0x78797A7B) ∧
      decodesTo (.primitive gctx.toDraw [0x36A1B2C3, 0x01020304, 0x12131415, 0x23242526, 0x34353637, 0x45464748, 0x56575859, 0x6768696A, 0x78797A7B])
        (.polyG3TS gctx 0xA1B2C3 0x01020304 0x12131415 0x23242526 0x34353637 0x45464748 0x56575859 0x6768696A 0x78797A7B) ∧
      decodesTo (.primitive gctx.toDraw [0x37A1B2C3, 0x01020304, 0x12131415, 0x23242526, 0x34353637, 0x45464748, 0x56575859, 0x6768696A, 0x78797A7B])
        (.polyG3TSR gctx 0xA1B2C3 0x01020304 0x12131415 0x23242526 0x34353637 0x45464748 0x56575859 0x6768696A 0x78797A7B) := by decide

/-- 30_encoding.md R112, R113, R134: the top byte of the first word, its colour, the words after it. -/
theorem test_decode_polyG_1 :
    decodesTo (.primitive gctx.toDraw [0x38A1B2C3, 0x01020304, 0x12131415, 0x23242526, 0x34353637, 0x45464748, 0x56575859, 0x6768696A])
        (.polyG4 gctx 0xA1B2C3 0x01020304 0x12131415 0x23242526 0x34353637 0x45464748 0x56575859 0x6768696A) ∧
      decodesTo (.primitive gctx.toDraw [0x39A1B2C3, 0x01020304, 0x12131415, 0x23242526, 0x34353637, 0x45464748, 0x56575859, 0x6768696A])
        (.polyG4R gctx 0xA1B2C3 0x01020304 0x12131415 0x23242526 0x34353637 0x45464748 0x56575859 0x6768696A) ∧
      decodesTo (.primitive gctx.toDraw [0x3AA1B2C3, 0x01020304, 0x12131415, 0x23242526, 0x34353637, 0x45464748, 0x56575859, 0x6768696A])
        (.polyG4S gctx 0xA1B2C3 0x01020304 0x12131415 0x23242526 0x34353637 0x45464748 0x56575859 0x6768696A) ∧
      decodesTo (.primitive gctx.toDraw [0x3BA1B2C3, 0x01020304, 0x12131415, 0x23242526, 0x34353637, 0x45464748, 0x56575859, 0x6768696A])
        (.polyG4SR gctx 0xA1B2C3 0x01020304 0x12131415 0x23242526 0x34353637 0x45464748 0x56575859 0x6768696A) ∧
      decodesTo (.primitive gctx.toDraw [0x3CA1B2C3, 0x01020304, 0x12131415, 0x23242526, 0x34353637, 0x45464748, 0x56575859, 0x6768696A, 0x78797A7B, 0x898A8B8C, 0x9A9B9C9D, 0xABACADAE])
        (.polyG4T gctx 0xA1B2C3 0x01020304 0x12131415 0x23242526 0x34353637 0x45464748 0x56575859 0x6768696A 0x78797A7B 0x898A8B8C 0x9A9B9C9D 0xABACADAE) ∧
      decodesTo (.primitive gctx.toDraw [0x3DA1B2C3, 0x01020304, 0x12131415, 0x23242526, 0x34353637, 0x45464748, 0x56575859, 0x6768696A, 0x78797A7B, 0x898A8B8C, 0x9A9B9C9D, 0xABACADAE])
        (.polyG4TR gctx 0xA1B2C3 0x01020304 0x12131415 0x23242526 0x34353637 0x45464748 0x56575859 0x6768696A 0x78797A7B 0x898A8B8C 0x9A9B9C9D 0xABACADAE) ∧
      decodesTo (.primitive gctx.toDraw [0x3EA1B2C3, 0x01020304, 0x12131415, 0x23242526, 0x34353637, 0x45464748, 0x56575859, 0x6768696A, 0x78797A7B, 0x898A8B8C, 0x9A9B9C9D, 0xABACADAE])
        (.polyG4TS gctx 0xA1B2C3 0x01020304 0x12131415 0x23242526 0x34353637 0x45464748 0x56575859 0x6768696A 0x78797A7B 0x898A8B8C 0x9A9B9C9D 0xABACADAE) ∧
      decodesTo (.primitive gctx.toDraw [0x3FA1B2C3, 0x01020304, 0x12131415, 0x23242526, 0x34353637, 0x45464748, 0x56575859, 0x6768696A, 0x78797A7B, 0x898A8B8C, 0x9A9B9C9D, 0xABACADAE])
        (.polyG4TSR gctx 0xA1B2C3 0x01020304 0x12131415 0x23242526 0x34353637 0x45464748 0x56575859 0x6768696A 0x78797A7B 0x898A8B8C 0x9A9B9C9D 0xABACADAE) := by decide

/-- 30_encoding.md R112, R113, R134: the top byte of the first word, its colour, the words after it. -/
theorem test_decode_rect_0 :
    decodesTo (.primitive rctx [0x60A1B2C3, 0x01020304, 0x12131415])
        (.rectV rctx 0xA1B2C3 0x01020304 0x12131415) ∧
      decodesTo (.primitive rctx [0x61A1B2C3, 0x01020304, 0x12131415])
        (.rectVR rctx 0xA1B2C3 0x01020304 0x12131415) ∧
      decodesTo (.primitive rctx [0x62A1B2C3, 0x01020304, 0x12131415])
        (.rectVS rctx 0xA1B2C3 0x01020304 0x12131415) ∧
      decodesTo (.primitive rctx [0x63A1B2C3, 0x01020304, 0x12131415])
        (.rectVSR rctx 0xA1B2C3 0x01020304 0x12131415) ∧
      decodesTo (.primitive rctx [0x64A1B2C3, 0x01020304, 0x12131415, 0x23242526])
        (.rectVT rctx 0xA1B2C3 0x01020304 0x12131415 0x23242526) ∧
      decodesTo (.primitive rctx [0x65A1B2C3, 0x01020304, 0x12131415, 0x23242526])
        (.rectVTR rctx 0xA1B2C3 0x01020304 0x12131415 0x23242526) ∧
      decodesTo (.primitive rctx [0x66A1B2C3, 0x01020304, 0x12131415, 0x23242526])
        (.rectVTS rctx 0xA1B2C3 0x01020304 0x12131415 0x23242526) ∧
      decodesTo (.primitive rctx [0x67A1B2C3, 0x01020304, 0x12131415, 0x23242526])
        (.rectVTSR rctx 0xA1B2C3 0x01020304 0x12131415 0x23242526) := by decide

/-- 30_encoding.md R112, R113, R134: the top byte of the first word, its colour, the words after it. -/
theorem test_decode_rect_1 :
    decodesTo (.primitive rctx [0x68A1B2C3, 0x01020304])
        (.rect1 rctx 0xA1B2C3 0x01020304) ∧
      decodesTo (.primitive rctx [0x69A1B2C3, 0x01020304])
        (.rect1R rctx 0xA1B2C3 0x01020304) ∧
      decodesTo (.primitive rctx [0x6AA1B2C3, 0x01020304])
        (.rect1S rctx 0xA1B2C3 0x01020304) ∧
      decodesTo (.primitive rctx [0x6BA1B2C3, 0x01020304])
        (.rect1SR rctx 0xA1B2C3 0x01020304) ∧
      decodesTo (.primitive rctx [0x6CA1B2C3, 0x01020304, 0x12131415])
        (.rect1T rctx 0xA1B2C3 0x01020304 0x12131415) ∧
      decodesTo (.primitive rctx [0x6DA1B2C3, 0x01020304, 0x12131415])
        (.rect1TR rctx 0xA1B2C3 0x01020304 0x12131415) ∧
      decodesTo (.primitive rctx [0x6EA1B2C3, 0x01020304, 0x12131415])
        (.rect1TS rctx 0xA1B2C3 0x01020304 0x12131415) ∧
      decodesTo (.primitive rctx [0x6FA1B2C3, 0x01020304, 0x12131415])
        (.rect1TSR rctx 0xA1B2C3 0x01020304 0x12131415) := by decide

/-- 30_encoding.md R112, R113, R134: the top byte of the first word, its colour, the words after it. -/
theorem test_decode_rect_2 :
    decodesTo (.primitive rctx [0x70A1B2C3, 0x01020304])
        (.rect8 rctx 0xA1B2C3 0x01020304) ∧
      decodesTo (.primitive rctx [0x71A1B2C3, 0x01020304])
        (.rect8R rctx 0xA1B2C3 0x01020304) ∧
      decodesTo (.primitive rctx [0x72A1B2C3, 0x01020304])
        (.rect8S rctx 0xA1B2C3 0x01020304) ∧
      decodesTo (.primitive rctx [0x73A1B2C3, 0x01020304])
        (.rect8SR rctx 0xA1B2C3 0x01020304) ∧
      decodesTo (.primitive rctx [0x74A1B2C3, 0x01020304, 0x12131415])
        (.rect8T rctx 0xA1B2C3 0x01020304 0x12131415) ∧
      decodesTo (.primitive rctx [0x75A1B2C3, 0x01020304, 0x12131415])
        (.rect8TR rctx 0xA1B2C3 0x01020304 0x12131415) ∧
      decodesTo (.primitive rctx [0x76A1B2C3, 0x01020304, 0x12131415])
        (.rect8TS rctx 0xA1B2C3 0x01020304 0x12131415) ∧
      decodesTo (.primitive rctx [0x77A1B2C3, 0x01020304, 0x12131415])
        (.rect8TSR rctx 0xA1B2C3 0x01020304 0x12131415) := by decide

/-- 30_encoding.md R112, R113, R134: the top byte of the first word, its colour, the words after it. -/
theorem test_decode_rect_3 :
    decodesTo (.primitive rctx [0x78A1B2C3, 0x01020304])
        (.rect16 rctx 0xA1B2C3 0x01020304) ∧
      decodesTo (.primitive rctx [0x79A1B2C3, 0x01020304])
        (.rect16R rctx 0xA1B2C3 0x01020304) ∧
      decodesTo (.primitive rctx [0x7AA1B2C3, 0x01020304])
        (.rect16S rctx 0xA1B2C3 0x01020304) ∧
      decodesTo (.primitive rctx [0x7BA1B2C3, 0x01020304])
        (.rect16SR rctx 0xA1B2C3 0x01020304) ∧
      decodesTo (.primitive rctx [0x7CA1B2C3, 0x01020304, 0x12131415])
        (.rect16T rctx 0xA1B2C3 0x01020304 0x12131415) ∧
      decodesTo (.primitive rctx [0x7DA1B2C3, 0x01020304, 0x12131415])
        (.rect16TR rctx 0xA1B2C3 0x01020304 0x12131415) ∧
      decodesTo (.primitive rctx [0x7EA1B2C3, 0x01020304, 0x12131415])
        (.rect16TS rctx 0xA1B2C3 0x01020304 0x12131415) ∧
      decodesTo (.primitive rctx [0x7FA1B2C3, 0x01020304, 0x12131415])
        (.rect16TSR rctx 0xA1B2C3 0x01020304 0x12131415) := by decide

/-- 30_encoding.md R133, R139: dialogues. -/
theorem test_decode_dialogues :
    decodesTo (.dialogue .normal [0x42, 1, 2, 3]) (.padNPoll 0x42 [1, 2, 3]) ∧
      decodesTo (.dialogue .normal [0x43, 0, 1]) (.padNCfg [0, 1]) ∧
      decodesTo (.dialogue .config [0x42, 1, 2, 3, 4, 5, 6, 7]) (.padC42 1 2 3 4 5 6 7) ∧
      decodesTo (.dialogue .config [0x43, 1, 2, 3, 4, 5, 6, 7]) (.padC43 1 2 3 4 5 6 7) ∧
      decodesTo (.dialogue .config [0x44, 1, 2, 3, 4, 5, 6, 7]) (.padC44 1 2 3 4 5 6 7) ∧
      decodesTo (.dialogue .config [0x45, 1, 2, 3, 4, 5, 6, 7]) (.padC45 1 2 3 4 5 6 7) ∧
      decodesTo (.dialogue .config [0x46, 1, 2, 3, 4, 5, 6, 7]) (.padC46 1 2 3 4 5 6 7) ∧
      decodesTo (.dialogue .config [0x47, 1, 2, 3, 4, 5, 6, 7]) (.padC47 1 2 3 4 5 6 7) ∧
      decodesTo (.dialogue .config [0x4C, 1, 2, 3, 4, 5, 6, 7]) (.padC4C 1 2 3 4 5 6 7) ∧
      decodesTo (.dialogue .config [0x4D, 1, 2, 3, 4, 5, 6, 7]) (.padC4D 1 2 3 4 5 6 7) := by decide

/-- 95 section 2.1: the accesses that select nothing. -/
theorem test_decode_unhandled :
    unhandled (.busRead32 0x1F80108C) 0x1F80108C ∧ unhandled (.busRead32 0x1F801081) 0x1F801081 ∧
      unhandled (.busWrite32 0x1F8010EC 0) 0x1F8010EC ∧ unhandled (.busRead32 0x1F8010F8) 0x1F8010F8 ∧
      unhandled (.busRead32 0x1F8010FC) 0x1F8010FC ∧ unhandled (.busRead32 0x1F8010F2) 0x1F8010F2 ∧
      unhandled (.busRead16 0x1F8010F5) 0x1F8010F5 ∧ unhandled (.busWrite16 0x1F801082 0) 0x1F801082 ∧
      unhandled (.busRead8 0x1F8010F0) 0x1F8010F0 ∧ unhandled (.busRead8 0x1F8010F8) 0x1F8010F8 ∧
      unhandled (.busRead32 0x1F80107C) 0x1F80107C ∧ unhandled (.busRead32 0x1F801100) 0x1F801100 ∧
      unhandled (.busRead32 0) 0 := by decide

/-- The bare words of the opcode table (Log 17). -/
theorem test_decode_table_words :
    decodeTableWord 32 0x1F8010A8 = some (.rd32Ctrl 2) ∧ decodeTableWord 32 0x1F8010F6 = some .rd16DicrH ∧
      decodeTableWord 8 0x42 = some (.xchg 0x42) ∧ decodeTableWord 64 0x47 = some (.padC47 0 0 0 0 0 0 0) ∧
      decodeTableWord 0 0 = none := by decide

/-! ## Single steps: DMA -/

/-- Vectors B1, B4. -/
theorem test_base :
    result (.rd32Base 2) (runAll [.wr32Base 2 0xFFFFFFFF] s0) = .word 0x00FFFFFF ∧
      result (.rd16Base 2) (runAll [.wr32Base 2 0x12345678] s0) = .half 0x5678 ∧
      result (.rd32Base 2) (runAll [.wr32Base 2 0x12345678, .wr16Base 2 0xBEEF] s0) = .word 0x0000BEEF := by decide

/-- Vectors S2, B5 to B9. -/
theorem test_block :
    ((runAll [.wr32Block 0 0] s0).dma.chan 0).blockSize = 0x10000 ∧ ((runAll [.wr32Block 0 0] s0).dma.chan 0).blockCount = 0x10000 ∧
      ((runAll [.wr32Block 0 0x00020010] s0).dma.chan 0).blockSize = 16 ∧
      ((runAll [.wr32Block 0 0x00020010] s0).dma.chan 0).blockCount = 2 ∧
      result (.rd32Block 2) (runAll [.wr32Block 2 0x00010000] s0) = .word 0x00010000 ∧
      ((runAll [.wr16Block 2 0x0040] s0).dma.chan 2).blockCount = 0x10000 ∧
      result (.rd16Block 2) (runAll [.wr16Block 2 0x0040] s0) = .half 0x0040 := by decide

/-- Vectors K2 to K8: the channel control read after the write, and the number of dispatches. -/
theorem test_control_word :
    result (.rd32Ctrl 3) (runAll [.wr32Ctrl 3 0x01000000] bound) = .word 0x01000000 ∧
      result (.rd32Ctrl 3) (runAll [.wr32Ctrl 3 0x10000000] bound) = .word 0x10000000 ∧
      result (.rd32Ctrl 3) (runAll [.wr32Ctrl 3 0x11000000] bound) = .word 0 ∧
      (runAll [.wr32Ctrl 3 0x11000000] bound).engineCalls.length = 1 ∧
      result (.rd32Ctrl 3) (runAll [.wr32Ctrl 3 0x01000401] bound) = .word 0x00000401 ∧
      result (.rd32Ctrl 3) (runAll [.wr32Ctrl 3 0x11000002] bound) = .word 0x00000002 := by decide

/-- Vectors K12 to K15. -/
theorem test_control_fields :
    result (.rd32Ctrl 6) (runAll [.wr32Ctrl 6 0xFFFFF9FF] bound) = .word 0x60770103 ∧
      result (.rd32Ctrl 6) (runAll [.wr32Ctrl 6 0xFFFFFBFF] bound) = .word 0x60770303 ∧
      result (.rd32Ctrl 6) (runAll [.wr32Ctrl 6 0xFFFFFDFF] bound) = .word 0x60770503 ∧
      result (.rd32Ctrl 6) (runAll [.wr32Ctrl 6 0x8E88F8FC] bound) = .word 0 := by decide

/-- Vectors K18, K19, and RD16.CTRL after K12. -/
theorem test_control_half :
    result (.rd32Ctrl 1) (runAll [.wr32Ctrl 1 0xFFFFF9FF, .wr16Ctrl 1 0x0201] bound) = .word 0x00000201 ∧
      result (.wr16Ctrl 1 0x0600) bound = .error (.invalidConfiguration 1 0x00000600) ∧
      result (.rd16Ctrl 1) (runAll [.wr32Ctrl 1 0xFFFFF9FF] bound) = .half 0x0103 := by decide

/-- Vectors E3, E6, with the code of R330. -/
theorem test_control_reserved_sync :
    result (.wr32Ctrl 1 0x00000600) bound = .error (.invalidConfiguration 1 0x00000600) ∧
      result (.rd32Ctrl 2) (runAll [.wr32Ctrl 2 0x00000401, .wr32Ctrl 2 0x01000600] bound) = .word 0x00000401 ∧
      errorCode (.invalidConfiguration 1 0x00000600) = 2 := by decide

/-- Vector E2, and the other byte accesses to channel registers. -/
theorem test_channel_bytes :
    result (.wr8Ctrl 0 0 0x01) s0 = .error (.unhandledAddress 0x1F801088) ∧
      result (.rd8Ctrl 0 3) s0 = .error (.unhandledAddress 0x1F80108B) ∧
      result (.rd8Base 0 0) s0 = .error (.unhandledAddress 0x1F801080) ∧
      result (.wr8Base 6 1 0) s0 = .error (.unhandledAddress 0x1F8010E1) ∧
      result (.rd8Block 5 0) s0 = .error (.unhandledAddress 0x1F8010D4) ∧
      result (.wr8Block 5 2 0) s0 = .error (.unhandledAddress 0x1F8010D6) := by decide

/-- Vectors D1, D4, D5. -/
theorem test_dpcr :
    result .rd32Dpcr s0 = .word 0x07654321 ∧ result .rd16Dpcr s0 = .half 0x4321 ∧
      result .rd32Dpcr (runAll [.wr32Dpcr 0x0F6F4B21] s0) = .word 0x0F6F4B21 ∧
      result .rd32Dpcr (runAll [.wr32Dpcr 0x0F6F4B21, .wr16Dpcr 0x8888] s0) = .word 0x00008888 := by decide

/-- Vectors I1w, I4w, I6w, I8w, I10w. -/
theorem test_dicr_word :
    dicrWord (runAll [.wr32Dicr 0xFFFFFFFF] s0) = .word 0x80FF807F ∧ dicrWord (runAll [.wr32Dicr 0x0000FF80] s0) = .word 0x80008000 ∧
      dicrWord (runAll [.wr32Dicr 0x05FF0000] (dicr 0 false 0 false 0x55)) = .word 0xD0FF0000 ∧
      dicrWord (runAll [.wr32Dicr 0x00900000] (dicr 0 false 0 true 0x10)) = .word 0x90900000 ∧
      dicrWord (runAll [.wr32Dicr 0x80900000] (dicr 0 false 0x10 false 0x10)) = .word 0x90900000 := by decide

/-- Vectors Y4, Y5, and the half reads of Y2. -/
theorem test_dicr_halves :
    dicrWord (runAll [.wr16DicrL 0x8005] (dicr 0x7F false 0x7F true 0x24)) = .word 0xA4FF8005 ∧
      dicrWord (runAll [.wr16DicrL 0x8005, .wr16DicrH 0x0481] (dicr 0x7F false 0x7F true 0x24)) = .word 0xA0818005 ∧
      result .rd16DicrL (dicr 0x7F true 0x7F true 0x7F) = .half 0x807F ∧
      result .rd16DicrH (dicr 0x7F true 0x7F true 0x7F) = .half 0xFFFF := by decide

/-- The byte reads of vector Y2. -/
theorem test_dicr_byte_reads :
    result .rd8Dicr0 (dicr 0x7F true 0x7F true 0x7F) = .byte 0x7F ∧ result .rd8Dicr1 (dicr 0x7F true 0x7F true 0x7F) = .byte 0x80 ∧
      result .rd8Dicr2 (dicr 0x7F true 0x7F true 0x7F) = .byte 0xFF ∧ result .rd8Dicr3 (dicr 0x7F true 0x7F true 0x7F) = .byte 0xFF := by
  decide

/-- Vectors Y1, Y3, Y6, Y7. -/
theorem test_dicr_byte_writes :
    dicrWord (runAll [.wr8Dicr0 0xFF, .wr8Dicr1 0xFF, .wr8Dicr2 0xFF] s0) = .word 0x80FF807F ∧
      dicrWord (runAll [.wr8Dicr3 0xFF] (dicr 0x7F true 0x7F true 0x7F)) = .word 0x80FF807F ∧
      result .rd8Dicr1 (runAll [.wr8Dicr1 0x7F] s0) = .byte 0 ∧
      (runAll [.wr8Dicr3 0x80] (dicr 0 false 0 false 0x7F)).dma.flags = 0x7F := by decide

/-- Vectors S1 and S1a: the formula decides, not the literal of the source. -/
theorem test_interrupt_level :
    result .hasIrq (runAll [.wr32Dicr 0x00810000, .setIrq 4] s0) = .bit false ∧
      result .hasIrq (runAll [.wr32Dicr 0x00900000, .setIrq 4] s0) = .bit true ∧
      result .hasIrq (runAll [.wr32Dicr 0x00900000, .setIrq 4, .wr32Dicr 0x10900000] s0) = .bit false := by decide

/-- Vectors T1, T3, T4. -/
theorem test_sideband :
    dicrWord (runAll [.setIrq 3] s0) = .word 0x08000000 ∧ result (.irqEn 4) (dicr 0 false 0x10 false 0) = .bit true ∧
      result (.irqEn 0) (dicr 0 false 0x10 false 0) = .bit false ∧
      result (.rd32Ctrl 2)
        (runAll [.doneCh 2] { s0 with dma := s0.dma.setChan 2 (loadCtrl 0x11000201 .request (s0.dma.chan 2)) }) = .word 0x00000201 := by
  decide

/-- Vectors T5, T7, T8, T9. -/
theorem test_dispatch :
    dicrWord (runAll [.wr32Dicr 0x00840000, .wr32Ctrl 2 0x01000401] bound) = .word 0x84840000 ∧
      dicrWord (runAll [.wr32Dicr 0x00840000, .wr32Ctrl 6 0x11000002] bound) = .word 0x00840000 ∧
      refusal (exec (.wr32Ctrl 0 0x11000000) s0) = some .noEngineBound ∧ refusal (exec (.wr32Ctrl 0 0x01000000) s0) = none := by decide

/-- `TRIGGER` (41 R196 to R199): one invocation inside the write; refused without one, also handed in by an agent (30 R137), and nested. -/
theorem test_trigger :
    (runAll [.triggerCh 2] (dispatchOn 2 (dicr 0 false 0x04 true 0))).engineCalls.map (fun k => k.port) = [2] ∧
      (runAll [.triggerCh 2] (dispatchOn 2 (dicr 0 false 0x04 true 0))).dma.flags = 0x04 ∧
      refusal (step { bound with pending := [.operation (.traceTrigger 2)] }) = some (.noDispatchingWrite 2) ∧
      refusal (exec (.triggerCh 1) (dispatchOn 2 bound)) = some (.noDispatchingWrite 1) ∧
      refusal (exec (.triggerCh 2) busy) = some .nestedTrigger := by decide

/-- What the engine reads in the transfer of vector T5 (41 R200): its channel as written and active, its mask bit, DPCR and DICR. -/
theorem test_engine_reads :
    (runAll [.wr32Dicr 0x00840000, .wr32Ctrl 2 0x01000401] bound).engineCalls.map
        (fun k => [result (.rd32Ctrl 2) { bound with dma := k.dma }, .bit (isActive (k.dma.chan k.port)),
          result (.irqEn 2) { bound with dma := k.dma }, result .rd32Dpcr { bound with dma := k.dma },
          result .rd32Dicr { bound with dma := k.dma }]) =
      [[.word 0x01000401, .bit true, .bit true, .word 0x07654321, .word 0x00840000]] := by decide

/-! ## Single steps: the assembler -/

/-- Vector S4: `READY` after each `ADD`. -/
theorem test_ready :
    result .ready (runAll [.beginPrim 0x200000FF rctx, .addWord 0x200000FF, .addWord 0x00100010, .addWord 0x00100050] s0) = .bit false ∧
      result .ready
        (runAll [.beginPrim 0x200000FF rctx, .addWord 0x200000FF, .addWord 0x00100010, .addWord 0x00100050, .addWord 0x00500010] s0) =
          .bit true := by decide

/-- Vectors S5, S6, and 30_encoding.md R132. -/
theorem test_begin :
    expectedOf (runAll [.beginPrim 0x3C808080 rctx] s0).gpa.prim = some 12 ∧
      expectedOf (runAll [.beginPrim 0x60FFFFFF rctx] s0).gpa.prim = some 3 ∧
      refusal (exec (.beginPrim 0x40000000 rctx) s0) = some (.notAPrimitive 0x40000000) := by decide

/-- 70 R392 to R394. -/
theorem test_assembler_refusals :
    refusal (exec (.addWord 0) s0) = some .noPrimitive ∧ refusal (exec .ready s0) = some .noPrimitive ∧
      refusal (exec .draw s0) = some .noPrimitive ∧ refusal (exec .draw (runAll [.beginPrim 0x680000FF rctx] s0)) = some .drawNotReady ∧
      refusal (exec (.addWord 3) (runAll [.beginPrim 0x680000FF rctx, .addWord 1, .addWord 2] s0)) = some .addWhenReady := by decide

/-- `DRAW` twice emits twice (95 section 2.8, decision D34). -/
theorem test_draw_twice :
    (runAll [.beginPrim 0x680000FF rctx, .addWord 0x680000FF, .addWord 0, .draw, .draw] s0).toRenderer.length = 4 := by decide

/-- Vector G1. -/
theorem test_polyF3 :
    emitted (.polyF3 gctx 0x0000FF 0x00100010 0x00100050 0x00500010) =
        [⟨16, 16, 255, 0, 0, 0, 0⟩, ⟨80, 16, 255, 0, 0, 0, 0⟩, ⟨16, 80, 255, 0, 0, 0, 0⟩] ∧
      emittedShared (.polyF3 gctx 0x0000FF 0x00100010 0x00100050 0x00500010) =
        List.replicate 3 ⟨0, 0, .untextured, true, .solid⟩ := by decide

/-- Vector G2. -/
theorem test_polyF4S :
    emitted (.polyF4S gctx 0x00FF00 0x00000000 0x00000040 0x00400000 0x00400040) =
        [⟨0, 0, 0, 255, 0, 0, 0⟩, ⟨64, 0, 0, 255, 0, 0, 0⟩, ⟨0, 64, 0, 255, 0, 0, 0⟩,
          ⟨64, 0, 0, 255, 0, 0, 0⟩, ⟨0, 64, 0, 255, 0, 0, 0⟩, ⟨64, 64, 0, 255, 0, 0, 0⟩] ∧
      emittedShared (.polyF4S gctx 0x00FF00 0x00000000 0x00000040 0x00400000 0x00400040) =
        List.replicate 6 ⟨0, 0, .untextured, true, .blend 2⟩ := by decide

/-- Vector G3. -/
theorem test_polyG3 :
    emitted (.polyG3 gctx 0xFF0000 0xFFFF8000 0x0000FF00 0x7FFF7FFF 0x000000FF 0x0000FFFF) =
        [⟨-32768, -1, 0, 0, 255, 0, 0⟩, ⟨32767, 32767, 0, 255, 0, 0, 0⟩, ⟨-1, 0, 255, 0, 0, 0, 0⟩] ∧
      emittedShared (.polyG3 gctx 0xFF0000 0xFFFF8000 0x0000FF00 0x7FFF7FFF 0x000000FF 0x0000FFFF) =
        List.replicate 3 ⟨0, 0, .untextured, true, .solid⟩ := by decide

/-- Vector G4. -/
theorem test_polyF3TSR :
    emitted (.polyF3TSR gctx 0x112233 0x00000000 0x7FC00000 0x00000040 0x00650040 0x00400000 0xDEAD4000) =
        [⟨0, 0, 128, 128, 128, 0, 0⟩, ⟨64, 0, 128, 128, 128, 64, 0⟩, ⟨0, 64, 128, 128, 128, 0, 64⟩] ∧
      emittedShared (.polyF3TSR gctx 0x112233 0x00000000 0x7FC00000 0x00000040 0x00650040 0x00400000 0xDEAD4000) =
        List.replicate 3 ⟨0x7FC0, 0x0065, .mode 0, false, .blend 3⟩ := by decide

/-- Vector G5. -/
theorem test_polyG4T :
    emitted (.polyG4T { ditherEnable := false, globalBlend := 0 } 0x808080 0x00100010 0x78000000 0x00FF0000 0x00100050 0x0025003F
          0x0000FF00 0x00500010 0x00003F00 0x000000FF 0x00500050 0x00003F3F) =
        [⟨16, 16, 128, 128, 128, 0, 0⟩, ⟨80, 16, 0, 0, 255, 63, 0⟩, ⟨16, 80, 0, 255, 0, 0, 63⟩,
          ⟨80, 16, 0, 0, 255, 63, 0⟩, ⟨16, 80, 0, 255, 0, 0, 63⟩, ⟨80, 80, 255, 0, 0, 63, 63⟩] ∧
      emittedShared (.polyG4T { ditherEnable := false, globalBlend := 0 } 0x808080 0x00100010 0x78000000 0x00FF0000 0x00100050
          0x0025003F 0x0000FF00 0x00500010 0x00003F00 0x000000FF 0x00500050 0x00003F3F) =
        List.replicate 6 ⟨0x7800, 0x0025, .mode 0, false, .solid⟩ := by decide

/-- Vector G6. -/
theorem test_polyG3TR :
    emitted (.polyG3TR gctx 0x010203 0x00000000 0x12340000 0x00040506 0x00010001 0x01800101 0x00070809 0x00020002 0xFFFF0202) =
        [⟨0, 0, 128, 128, 128, 0, 0⟩, ⟨1, 1, 128, 128, 128, 1, 1⟩, ⟨2, 2, 128, 128, 128, 2, 2⟩] ∧
      emittedShared (.polyG3TR gctx 0x010203 0x00000000 0x12340000 0x00040506 0x00010001 0x01800101 0x00070809 0x00020002 0xFFFF0202) =
        List.replicate 3 ⟨0x1234, 0x0180, .mode 3, true, .solid⟩ := by decide

/-- 95 section 2.8 (42 R213): the word counts by opcode, and the triangles. -/
theorem test_counts_poly :
    [counts (.polyF3 gctx 0 0 0 0),
      counts (.polyF3R gctx 0 0 0 0),
      counts (.polyF3S gctx 0 0 0 0),
      counts (.polyF3SR gctx 0 0 0 0),
      counts (.polyF3T gctx 0 0 0 0 0 0 0),
      counts (.polyF3TR gctx 0 0 0 0 0 0 0),
      counts (.polyF3TS gctx 0 0 0 0 0 0 0),
      counts (.polyF3TSR gctx 0 0 0 0 0 0 0),
      counts (.polyF4 gctx 0 0 0 0 0),
      counts (.polyF4R gctx 0 0 0 0 0),
      counts (.polyF4S gctx 0 0 0 0 0),
      counts (.polyF4SR gctx 0 0 0 0 0),
      counts (.polyF4T gctx 0 0 0 0 0 0 0 0 0),
      counts (.polyF4TR gctx 0 0 0 0 0 0 0 0 0),
      counts (.polyF4TS gctx 0 0 0 0 0 0 0 0 0),
      counts (.polyF4TSR gctx 0 0 0 0 0 0 0 0 0),
      counts (.polyG3 gctx 0 0 0 0 0 0),
      counts (.polyG3R gctx 0 0 0 0 0 0),
      counts (.polyG3S gctx 0 0 0 0 0 0),
      counts (.polyG3SR gctx 0 0 0 0 0 0),
      counts (.polyG3T gctx 0 0 0 0 0 0 0 0 0),
      counts (.polyG3TR gctx 0 0 0 0 0 0 0 0 0),
      counts (.polyG3TS gctx 0 0 0 0 0 0 0 0 0),
      counts (.polyG3TSR gctx 0 0 0 0 0 0 0 0 0),
      counts (.polyG4 gctx 0 0 0 0 0 0 0 0),
      counts (.polyG4R gctx 0 0 0 0 0 0 0 0),
      counts (.polyG4S gctx 0 0 0 0 0 0 0 0),
      counts (.polyG4SR gctx 0 0 0 0 0 0 0 0),
      counts (.polyG4T gctx 0 0 0 0 0 0 0 0 0 0 0 0),
      counts (.polyG4TR gctx 0 0 0 0 0 0 0 0 0 0 0 0),
      counts (.polyG4TS gctx 0 0 0 0 0 0 0 0 0 0 0 0),
      counts (.polyG4TSR gctx 0 0 0 0 0 0 0 0 0 0 0 0)] =
      [(some 4, 1), (some 4, 1), (some 4, 1), (some 4, 1), (some 7, 1), (some 7, 1), (some 7, 1), (some 7, 1), (some 5, 2), (some 5, 2), (some 5, 2), (some 5, 2), (some 9, 2), (some 9, 2), (some 9, 2), (some 9, 2), (some 6, 1), (some 6, 1), (some 6, 1), (some 6, 1), (some 9, 1), (some 9, 1), (some 9, 1), (some 9, 1), (some 8, 2), (some 8, 2), (some 8, 2), (some 8, 2), (some 12, 2), (some 12, 2), (some 12, 2), (some 12, 2)] := by decide

/-- 95 section 2.9 (43 R241): the word counts by opcode, and the triangles. -/
theorem test_counts_rect :
    [counts (.rectV rctx 0 0 0),
      counts (.rectVR rctx 0 0 0),
      counts (.rectVS rctx 0 0 0),
      counts (.rectVSR rctx 0 0 0),
      counts (.rectVT rctx 0 0 0 0),
      counts (.rectVTR rctx 0 0 0 0),
      counts (.rectVTS rctx 0 0 0 0),
      counts (.rectVTSR rctx 0 0 0 0),
      counts (.rect1 rctx 0 0),
      counts (.rect1R rctx 0 0),
      counts (.rect1S rctx 0 0),
      counts (.rect1SR rctx 0 0),
      counts (.rect1T rctx 0 0 0),
      counts (.rect1TR rctx 0 0 0),
      counts (.rect1TS rctx 0 0 0),
      counts (.rect1TSR rctx 0 0 0),
      counts (.rect8 rctx 0 0),
      counts (.rect8R rctx 0 0),
      counts (.rect8S rctx 0 0),
      counts (.rect8SR rctx 0 0),
      counts (.rect8T rctx 0 0 0),
      counts (.rect8TR rctx 0 0 0),
      counts (.rect8TS rctx 0 0 0),
      counts (.rect8TSR rctx 0 0 0),
      counts (.rect16 rctx 0 0),
      counts (.rect16R rctx 0 0),
      counts (.rect16S rctx 0 0),
      counts (.rect16SR rctx 0 0),
      counts (.rect16T rctx 0 0 0),
      counts (.rect16TR rctx 0 0 0),
      counts (.rect16TS rctx 0 0 0),
      counts (.rect16TSR rctx 0 0 0)] =
      [(some 3, 2), (some 3, 2), (some 3, 2), (some 3, 2), (some 4, 2), (some 4, 2), (some 4, 2), (some 4, 2), (some 2, 2), (some 2, 2), (some 2, 2), (some 2, 2), (some 3, 2), (some 3, 2), (some 3, 2), (some 3, 2), (some 2, 2), (some 2, 2), (some 2, 2), (some 2, 2), (some 3, 2), (some 3, 2), (some 3, 2), (some 3, 2), (some 2, 2), (some 2, 2), (some 2, 2), (some 2, 2), (some 3, 2), (some 3, 2), (some 3, 2), (some 3, 2)] := by decide

/-- Vector R1. -/
theorem test_rectV :
    emitted (.rectV rctx 0xFFFFFF 0x00000000 0x00100020) =
        [⟨0, 0, 255, 255, 255, 0, 0⟩, ⟨32, 0, 255, 255, 255, 0, 0⟩, ⟨0, 16, 255, 255, 255, 0, 0⟩,
          ⟨32, 0, 255, 255, 255, 0, 0⟩, ⟨0, 16, 255, 255, 255, 0, 0⟩, ⟨32, 16, 255, 255, 255, 0, 0⟩] ∧
      emittedShared (.rectV rctx 0xFFFFFF 0x00000000 0x00100020) = List.replicate 6 ⟨0, 0x0105, .untextured, false, .solid⟩ := by decide

/-- Vector R2. -/
theorem test_rect1S :
    emitted (.rect1S rctx 0x0000FF 0x07FF0400) =
        [⟨-1024, -1, 255, 0, 0, 0, 0⟩, ⟨-1023, -1, 255, 0, 0, 0, 0⟩, ⟨-1024, 0, 255, 0, 0, 0, 0⟩,
          ⟨-1023, -1, 255, 0, 0, 0, 0⟩, ⟨-1024, 0, 255, 0, 0, 0, 0⟩, ⟨-1023, 0, 255, 0, 0, 0, 0⟩] ∧
      emittedShared (.rect1S rctx 0x0000FF 0x07FF0400) = List.replicate 6 ⟨0, 0x0105, .untextured, false, .blend 2⟩ := by decide

/-- Vector R3. -/
theorem test_rect8T :
    emitted (.rect8T rctx 0x808080 0x00640032 0x7FFFF8F8) =
        [⟨50, 100, 128, 128, 128, 0xF8, 0xF8⟩, ⟨58, 100, 128, 128, 128, 0x100, 0xF8⟩, ⟨50, 108, 128, 128, 128, 0xF8, 0x100⟩,
          ⟨58, 100, 128, 128, 128, 0x100, 0xF8⟩, ⟨50, 108, 128, 128, 128, 0xF8, 0x100⟩, ⟨58, 108, 128, 128, 128, 0x100, 0x100⟩] ∧
      emittedShared (.rect8T rctx 0x808080 0x00640032 0x7FFFF8F8) = List.replicate 6 ⟨0x7FFF, 0x0105, .mode 1, false, .solid⟩ := by decide

/-- Vector R4. -/
theorem test_rect16TS :
    emitted (.rect16TS rctx 0x112233 0xFFFFFFFF 0x00010203) =
        [⟨-1, -1, 0x33, 0x22, 0x11, 3, 2⟩, ⟨15, -1, 0x33, 0x22, 0x11, 19, 2⟩, ⟨-1, 15, 0x33, 0x22, 0x11, 3, 18⟩,
          ⟨15, -1, 0x33, 0x22, 0x11, 19, 2⟩, ⟨-1, 15, 0x33, 0x22, 0x11, 3, 18⟩, ⟨15, 15, 0x33, 0x22, 0x11, 19, 18⟩] ∧
      emittedShared (.rect16TS rctx 0x112233 0xFFFFFFFF 0x00010203) = List.replicate 6 ⟨0x0001, 0x0105, .mode 1, false, .blend 2⟩ := by
  decide

/-- Vector R5, the four corners (records 0, 1, 2 and 5). -/
theorem test_rectVT :
    (emitted (.rectVT rctx 0x808080 0x00200010 0x78001020 0x00080010)).take 3 =
        [⟨16, 32, 128, 128, 128, 0x20, 0x10⟩, ⟨32, 32, 128, 128, 128, 0x30, 0x10⟩, ⟨16, 40, 128, 128, 128, 0x20, 0x18⟩] ∧
      (emitted (.rectVT rctx 0x808080 0x00200010 0x78001020 0x00080010)).getLast? = some ⟨32, 40, 128, 128, 128, 0x30, 0x18⟩ := by decide

/-- Vectors R6 and R7. -/
theorem test_rect_extremes :
    emitted (.rectVS rctx 0x000000 0x03FF03FF 0x00000000) = List.replicate 6 ⟨1023, 1023, 0, 0, 0, 0, 0⟩ ∧
      (emitted (.rectV rctx 0x123456 0x000003FF 0xFFFFFFFF)).take 3 =
        [⟨1023, 0, 0x56, 0x34, 0x12, 0, 0⟩, ⟨1022, 0, 0x56, 0x34, 0x12, 0, 0⟩, ⟨1023, -1, 0x56, 0x34, 0x12, 0, 0⟩] ∧
      (emitted (.rectV rctx 0x123456 0x000003FF 0xFFFFFFFF)).getLast? = some ⟨1022, -1, 0x56, 0x34, 0x12, 0, 0⟩ := by decide

/-- Vector R8: one of the two colours, whichever the open parameter says. -/
theorem test_rect8TR :
    rectangleColor (beginRectangle 0x75112233 rctx) [0x75112233, 0, 0] = if Config.rectRawGray then 0x808080 else 0x112233 := by
  unfold rectangleColor
  cases Config.rectRawGray <;> decide

/-! ## Single steps: the pad -/

/-- Vectors S7, P0, P1, P2, P3. -/
theorem test_digital_dialogues :
    result (.padNPoll 0x42 [0, 0, 0]) (padAt .normal false 0 0) = .dialogue (repliesOf [0x41, 0x5A, 0xFF, 0xBF]) none ∧
      (runAll [.padNPoll 0x42 [0, 0, 0]] (padAt .normal false 0 0)).pad.cmd = 0x42 ∧
      result (.padNCfg [0, 1]) (padAt .normal false 0 0) = .dialogue (repliesOf [0x41, 0x5A, 0xFF]) none ∧
      (runAll [.padNCfg [0, 1]] (padAt .normal false 0 0)).pad.mode = .normal ∧
      result (.xchg 0x42) s0 = .pad { resp := 0xFF, ack := false } := by decide

/-- Vectors P4, P5. -/
theorem test_analog_dialogues :
    result (.padNPoll 0x42 [0, 0, 0, 0, 0, 0, 0]) (padAt .normal true 0 0) =
        .dialogue (repliesOf [0x73, 0x5A, 0xFF, 0xBF, 0x7F, 0x7F, 0x00, 0xFF]) none ∧
      result (.padNCfg [0, 1, 0, 0, 0, 0, 0]) (padAt .normal true 0 0) =
        .dialogue (repliesOf [0x73, 0x5A, 0xFF, 0xBF, 0x7F, 0x7F, 0x00, 0xFF]) none ∧
      (runAll [.padNCfg [0, 1, 0, 0, 0, 0, 0]] (padAt .normal true 0 0)).pad.mode = .config := by decide

/-- Vectors P6, P7, P8 (and S8). -/
theorem test_led_dialogues :
    result (.padC44 0 1 2 0 0 0 0) (padAt .config true 0 0) = .dialogue (repliesOf [0xF3, 0x5A, 0, 0, 0, 0, 0, 0]) none ∧
      (runAll [.padC44 0 1 2 0 0 0 0] (padAt .config true 0 0)).pad.led = 1 ∧
      result (.padC45 0 0 0 0 0 0 0) (runAll [.padC44 0 1 2 0 0 0 0] (padAt .config true 0 0)) =
        .dialogue (repliesOf [0xF3, 0x5A, 1, 2, 1, 2, 1, 0]) none ∧
      (runAll [.padC44 0 1 2 0 0 0 0, .padC44 0 0 0 0 0 0 0] (padAt .config true 0 0)).pad.led = 1 := by decide

/-- Vectors P9a to P9d. -/
theorem test_information_dialogues :
    result (.padC46 0 0 0 0 0 0 0) (padAt .config true 0 0) = .dialogue (repliesOf [0xF3, 0x5A, 0, 0, 1, 2, 0, 0x0A]) none ∧
      result (.padC46 0 1 0 0 0 0 0) (padAt .config true 0 0) = .dialogue (repliesOf [0xF3, 0x5A, 0, 0, 1, 1, 1, 0x14]) none ∧
      result (.padC46 0 2 0 0 0 0 0) (padAt .config true 0 0) = .dialogue (repliesOf [0xF3, 0x5A, 0, 0, 0, 0, 0, 0]) none ∧
      result (.padC47 0 0 0 0 0 0 0) (padAt .config true 0 0) = .dialogue (repliesOf [0xF3, 0x5A, 0, 0, 2, 0, 1, 0]) none := by decide

/-- Vectors P10a, P10b. -/
theorem test_selector_dialogues :
    result (.padC4C 0 0 0 0 0 0 0) (padAt .config true 0 0) = .dialogue (repliesOf [0xF3, 0x5A, 0, 0, 0, 4, 0, 0]) none ∧
      result (.padC4C 0 1 0 0 0 0 0) (padAt .config true 0 0) = .dialogue (repliesOf [0xF3, 0x5A, 0, 0, 0, 7, 0, 0]) none := by decide

/-- Vectors P11a, P11b. -/
theorem test_rumble_dialogues :
    result (.padC4D 0 0 1 0xFF 0xFF 0xFF 0xFF) (padAt .config true 0 0) =
        .dialogue (repliesOf [0xF3, 0x5A, 0xFF, 0xFF, 0xFF, 0xFF, 0xFF, 0xFF]) none ∧
      result (.padC4D 0 0x11 0x22 0x33 0x44 0x55 0x66) (runAll [.padC4D 0 0 1 0xFF 0xFF 0xFF 0xFF] (padAt .config true 0 0)) =
        .dialogue (repliesOf [0xF3, 0x5A, 0x00, 0x01, 0xFF, 0xFF, 0xFF, 0xFF]) none := by decide

/-- Vectors P12a, P12b, P12c. -/
theorem test_config_exit_dialogues :
    result (.padC42 0 0 0 0 0 0 0) (padAt .config true 0 0) =
        .dialogue (repliesOf [0xF3, 0x5A, 0xFF, 0xBF, 0x7F, 0x7F, 0x00, 0xFF]) none ∧
      (runAll [.padC43 0 1 0 0 0 0 0] (padAt .config true 0 0)).pad.mode = .config ∧
      (runAll [.padC43 0 0 0 0 0 0 0] (padAt .config true 0 0)).pad.mode = .normal := by decide

/-- Vectors P13 and P14, with the codes of R330. -/
theorem test_pad_errors :
    result (.xchg 0x42) (padAt .normal false 9 0x42) = .pad { resp := 0xFF, ack := false } ∧
      (after (exec (.xchg 0x42) (padAt .normal false 9 0x42))).log = [.report (.unknownSequenceStep 9)] ∧
      result (.xchg 0) (runAll [.xchg 0x41, .xchg 0] (padAt .config false 0 0)) = .error (.unrecognizedConfigCommand 0x41) ∧
      (runAll [.xchg 0x41, .xchg 0, .xchg 0] (padAt .config false 0 0)).pad.seq = 2 := by decide

/-- Vectors P15 and P16: a disconnection inside a dialogue, and a digital end of an analog one. -/
theorem test_pad_hazards :
    result (.xchg 0) (runAll [.xchg 0x42, .xchg 0, .connect false, .xchg 0, .connect true] (padAt .normal false 0 0)) =
        .pad { resp := 0xFF, ack := true } ∧
      (after (exec (.xchg 0) { padAt .normal false 3 0x43 with
        pad := { (padAt .normal false 3 0x43).pad with pendingSwitch := .toConfig } })).pad.mode = .config := by decide

/-- Vector I3. -/
theorem test_connect : (after (exec (.connect true) s0)).pad = { s0.pad with connected := true } := by decide

/-- Vector I1. -/
theorem test_axis_byte :
    axisByte (q (-1) 1) = 0x00 ∧ axisByte (q (-254) 255) = 0x00 ∧ axisByte (q (-1) 2) = 0x3F ∧ axisByte (q (-1) 255) = 0x7F ∧
      axisByte (q 0 1) = 0x7F ∧ axisByte (q 1 255) = 0x80 ∧ axisByte (q 2 255) = 0x80 ∧ axisByte (q 1 3) = 0xAA ∧
      axisByte (q 1 2) = 0xBF ∧ axisByte (q 254 255) = 0xFE ∧ axisByte (q 1 1) = 0xFF := by decide

/-- Vector I2, steps 1, 2, 4, 5 and 7 (the poll of a recognised device, with the profile of R322). -/
theorem test_poll :
    pollView (polls [snapA [0, 7] 0 0 1 (-1)] s0.pad) = some ⟨0xBFF7, [0xFF, 0x00, 0x7F, 0x7F], false, false⟩ ∧
      pollView (polls [snapA [0, 7] 0 0 1 (-1), snapA [8, 9] 0 0 0 0] s0.pad) = some ⟨0xFFF9, [0x7F, 0x7F, 0x7F, 0x7F], true, true⟩ ∧
      pollView (polls [snapA [8, 9] 0 0 0 0, snapA [8, 9] 0 0 0 0] s0.pad) = some ⟨0xFFF9, [0x7F, 0x7F, 0x7F, 0x7F], true, true⟩ ∧
      pollView (polls [snapA [8, 9] 0 0 0 0, snapA [] 0 0 0 0, snapA [8, 9] 0 0 0 0, snapA [8] 0 0 0 0] s0.pad) =
        some ⟨0xFFFD, [0x7F, 0x7F, 0x7F, 0x7F], false, false⟩ := by decide

/-- Vector I2, step 6 (45 R312), and 93 U14. -/
theorem test_poll_unknown_or_outside :
    (after (pollWith none { snapA [0] 0 0 0 0 with name := "unknown" } s0)).pad = s0.pad ∧
      (after (pollWith none { snapA [0] 0 0 0 0 with name := "unknown" } s0)).log = [.unknownDevice "unknown"] ∧
      refusal (pollWith (some exampleProfile) (snapA [] 0 0 2 0) s0) = some .axisOutsideContract := by decide

/-! ## The step -/

/-- Vector E1: an address that selects nothing. -/
theorem test_step_unhandled :
    (after (step { s0 with pending := [.operation (.busRead32 0x1F8010FC)] })).result = .error (.unhandledAddress 0x1F8010FC) := by decide

/-- A table word is the first operation after reset (Log 17). -/
theorem test_step_table_word :
    (after (step (s0.withFetchWord 32 0x1F8010F0))).result = .word 0x07654321 ∧ (after (step (s0.withFetchWord 8 0x42))).pad = s0.pad := by
  decide

/-! ## For each obligation with hypotheses, states and operands that meet them

`witness_<Name>` belongs to `Obligations.<Name>`; several clauses stand in one theorem, at the boundary values of their ranges. A statement
with no hypothesis has none here (BaseAddressReads, ControlReads, PriorityRegisterReads, InterruptRegisterWordRead,
InterruptRegisterByteReads, the eight families of drawn primitives, ConnectWritesConnectivityOnly, ResetHoldsInvariant,
ResetRegisterValues, TableWordsDecode). -/

/-- A bus write outside a transfer engine invocation: reset, engine bound or not. -/
theorem witness_outside_invocation : s0.dma.inCallback = false ∧ bound.dma.inCallback = false := by decide

theorem witness_BaseAddressWrites : s0.dma.inCallback = false := by decide
theorem witness_BlockControlReadsAndHalfWrite : s0.dma.inCallback = false := by decide
theorem witness_BlockControlWordWrite : s0.dma.inCallback = false := by decide

theorem witness_ReservedSyncRaises :
    (0x00000600#32).extractLsb' 9 2 = 3 ∧ (0x0600#16).extractLsb' 9 2 = 3 ∧
      (after (exec (.wr32Ctrl 6 0x11000600) busy)).result = .error (.invalidConfiguration 6 0x11000600) := by decide

/-- Manual with the trigger clear, manual not enabled, request not enabled; and for the half write both legal ends of the field. -/
theorem witness_ControlWriteInactive :
    s0.dma.inCallback = false ∧ (0x01000000#32).extractLsb' 9 2 ≠ 3 ∧ ¬activates 0x01000000 ∧ ¬activates 0x10000000 ∧
      (0x00000400#32).extractLsb' 9 2 ≠ 3 ∧ ¬activates 0x00000400 ∧ (0x0201#16).extractLsb' 9 2 ≠ 3 ∧ (0x0400#16).extractLsb' 9 2 ≠ 3 := by
  unfold activates; decide

/-- Manual with the trigger, request and linked list without it. -/
theorem witness_ControlWriteDispatches :
    bound.dma.inCallback = false ∧ bound.dma.engine = some 0 ∧ (0x11000000#32).extractLsb' 9 2 ≠ 3 ∧ activates 0x11000000 ∧
      (0x01000200#32).extractLsb' 9 2 ≠ 3 ∧ activates 0x01000200 ∧ (0x01000400#32).extractLsb' 9 2 ≠ 3 ∧ activates 0x01000400 := by
  unfold activates; decide

/-- Each clause: an activating write with and without an engine; `TRIGGER` inside such a write with and without one, outside any, on an
inactive channel, nested, above 6; an operation that adds an invocation. -/
theorem witness_DispatchNeedsWriteAndEngine :
    (s0.dma.inCallback = false ∧ s0.dma.engine = none ∧ (0x11000000#32).extractLsb' 9 2 ≠ 3 ∧ activates 0x11000000) ∧
      ((dispatchOn 6 s0).dma.inCallback = false ∧ (dispatchOn 6 s0).dma.dispatching = some 6 ∧
        ((dispatchOn 6 s0).dma.chan 6).active ∧ (dispatchOn 6 s0).dma.engine = none ∧ (dispatchOn 6 bound).dma.engine = some 0) ∧
      ¬(bound.dma.dispatching = some 6 ∧ (bound.dma.chan 6).active) ∧
      ¬((dispatchOn 6 bound).dma.dispatching = some 5 ∧ ((dispatchOn 6 bound).dma.chan 5).active) ∧
      busy.dma.inCallback = true ∧ 7 ≤ 7 ∧
      bound.dma.dispatching = none ∧ (after (exec (.wr32Ctrl 6 0x11000000) bound)).engineCalls ≠ bound.engineCalls := by
  unfold activates Channel.active; decide

/-- Both ends of the map at each width, and the addresses beside them. -/
theorem witness_AddressMapIsComplete :
    busAccess (.busRead32 0x1F801080) = some (32, 0x1F801080) ∧ 0x1F801080#32 ∈ acceptedAddrs 32 ∧ 0x1F8010F4#32 ∈ acceptedAddrs 32 ∧
      0x1F80107C#32 ∉ acceptedAddrs 32 ∧ 0x1F8010F6#32 ∉ acceptedAddrs 32 ∧ 0x1F8010F6#32 ∈ acceptedAddrs 16 ∧
      0x1F8010F5#32 ∉ acceptedAddrs 16 ∧ busAccess (.busWrite8 0x1F8010F7 1) = some (8, 0x1F8010F7) ∧ 0x1F8010F7#32 ∈ acceptedAddrs 8 ∧
      0x1F8010F3#32 ∉ acceptedAddrs 8 ∧ 0x1F8010F8#32 ∉ acceptedAddrs 8 ∧
      { s0 with pending := [.operation (.busRead8 0x1F8010F8)] }.pending = .operation (.busRead8 0x1F8010F8) :: [] := by decide

theorem witness_PriorityRegisterWrites : s0.dma.inCallback = false := by decide
theorem witness_InterruptRegisterWordWrite : s0.dma.inCallback = false := by decide
theorem witness_InterruptRegisterHalves : s0.dma.inCallback = false := by decide
theorem witness_InterruptRegisterByteWrites : s0.dma.inCallback = false := by decide

theorem witness_InterruptRegisterRoundTrip :
    s0.dma.inCallback = false ∧ 0x00FF807F#32 &&& ~~~0x00FF807F#32 = 0 ∧ 0x00000000#32 &&& ~~~0x00FF807F#32 = 0 := by decide

theorem witness_SetInterruptFlagAndMaskTest : 0 < 7 ∧ 6 < 7 ∧ 7 ≤ 7 := by decide
theorem witness_InterruptLevelAndDone : 0 < 7 ∧ 6 < 7 ∧ 7 ≤ 7 := by decide

theorem witness_BusWritesInsideInvocationRefused :
    isAcceptedBusWrite (.wr32Dpcr 0) = true ∧ isAcceptedBusWrite (.wr32Ctrl 0 0x11000000) = true ∧ busy.dma.inCallback = true := by decide

theorem witness_DmaReadsHaveNoSideEffect : isDmaRead (.irqEn 6) = true ∧ exec (.irqEn 6) s0 = .next { s0 with result := .bit false } :=
  ⟨rfl, rfl⟩

/-- A flag set by `SETIRQ`, a flag set by a transfer with its mask bit, a flag cleared. -/
theorem witness_OnlyNamedOperationsMoveFlags :
    (s0.dma.flags.getLsbD 3 = false ∧ (after (exec (.setIrq 3) s0)).dma.flags.getLsbD 3 = true) ∧
      ((dispatchOn 6 (dicr 0 false 0x40 true 0)).dma.flags.getLsbD 6 = false ∧
        (after (exec (.triggerCh 6) (dispatchOn 6 (dicr 0 false 0x40 true 0)))).dma.flags.getLsbD 6 = true) ∧
      ((dicr 0 false 0 false 0x7F).dma.flags.getLsbD 0 = true ∧
        (after (exec (.wr8Dicr3 0x01) (dicr 0 false 0 false 0x7F))).dma.flags.getLsbD 0 = false) := by decide

theorem witness_BeginPolygon : (0x20000000#32).extractLsb' 29 3 = 1 ∧ (0x3FFFFFFF#32).extractLsb' 29 3 = 1 := by decide

theorem witness_BeginRectangleOrRefuse :
    (0x60000000#32).extractLsb' 29 3 = 3 ∧ (0x7FFFFFFF#32).extractLsb' 29 3 = 3 ∧ (0x5FFFFFFF#32).extractLsb' 29 3 ≠ 1 ∧
      (0x5FFFFFFF#32).extractLsb' 29 3 ≠ 3 ∧ (0x80000000#32).extractLsb' 29 3 ≠ 1 ∧ (0x80000000#32).extractLsb' 29 3 ≠ 3 := by decide

/-- A flat triangle with `k` of its four words. -/
def triangleWith (k : Nat) : State :=
  runAll (.beginPrim 0x200000FF rctx :: [Instr.addWord 0x200000FF, .addWord 0x00100010, .addWord 0x00100050, .addWord 0x00500010].take k) s0

/-- A 1x1 rectangle with its two words. -/
def squareReady : State := runAll [.beginPrim 0x680000FF rctx, .addWord 0x680000FF, .addWord 0x00100010] s0

theorem witness_AddAppendsOrIsRefused :
    (expectedOf (triangleWith 3).gpa.prim = some 4 ∧ (triangleWith 3).gpa.buf.length < 4) ∧
      (expectedOf (triangleWith 4).gpa.prim = some 4 ∧ 4 ≤ (triangleWith 4).gpa.buf.length) ∧ (triangleWith 3).gpa.buf.length ≠ 4 ∧
      s0.gpa.prim = .none := by decide

theorem witness_ReadyComparesCounts : expectedOf (triangleWith 4).gpa.prim = some 4 ∧ s0.gpa.prim = .none := by decide

theorem witness_DrawPolygonEmitsStreamVertices :
    ∃ p, (triangleWith 4).gpa.prim = .polygon p ∧ p.shaped ∧ p.decoded = none ∧ (triangleWith 4).gpa.buf.length = p.expected :=
  ⟨_, rfl, ⟨rfl, rfl⟩, rfl, rfl⟩

theorem witness_DrawRectangleEmitsTwoTriangles :
    ∃ r, squareReady.gpa.prim = .rectangle r ∧ r.shaped ∧ squareReady.gpa.buf.length = r.expected :=
  ⟨_, rfl, rfl, rfl⟩

theorem witness_DrawAgainEmitsAgain : ∃ t, exec .draw squareReady = .next t := ⟨_, rfl⟩

theorem witness_ExchangeDisconnectedOrOverrun :
    s0.pad.connected = false ∧ ((padAt .config true 8 0x42).pad.connected = true ∧ 7 < (padAt .config true 8 0x42).pad.seq) ∧
      (padAt .config true 2 0x48).pad.connected = true ∧ (padAt .config true 2 0x48).pad.mode = .config ∧
      (padAt .config true 2 0x48).pad.seq = 2 ∧ (padAt .config true 2 0x48).pad.cmd ∉ configCommands := by decide

/-- One pad for each clause; the byte is 0x01 where a clause names it. -/
theorem witness_NormalModeTable :
    (padAt .normal true 0 0).pad.connected = true ∧ (padAt .normal true 0 0).pad.mode = .normal ∧ (padAt .normal true 0 0).pad.seq = 0 ∧
      (padAt .normal true 1 0).pad.seq = 1 ∧
      ((padAt .normal false 2 0x43).pad.cmd = 0x43 ∧ (padAt .normal false 2 0x43).pad.analog = false) ∧
      ((padAt .normal true 2 0x43).pad.cmd = 0x43 ∧ (padAt .normal true 2 0x43).pad.analog = true ∧ 0x01#8 = 0x01) ∧
      ¬((padAt .normal true 2 0x43).pad.cmd = 0x43 ∧ ((padAt .normal true 2 0x43).pad.analog = false ∨ 0x00#8 = 0x01)) ∧
      ((padAt .normal false 3 0x42).pad.seq = 3 ∧ (padAt .normal false 3 0x42).pad.analog = false) ∧
      (padAt .normal true 3 0x42).pad.analog = true ∧ (padAt .normal true 4 0x42).pad.seq = 4 ∧ (padAt .normal true 5 0x42).pad.seq = 5 ∧
      (padAt .normal true 6 0x42).pad.seq = 6 ∧ (padAt .normal true 7 0x42).pad.seq = 7 := by decide

theorem witness_ConfigModeHeader :
    (padAt .config false 0 0).pad.connected = true ∧ (padAt .config false 0 0).pad.mode = .config ∧ (padAt .config false 0 0).pad.seq = 0 ∧
      (padAt .config true 1 0).pad.seq = 1 := by decide

/-- Each command at steps 2 and 7. -/
theorem witness_ConfigModeTable :
    (∀ cmd ∈ configCommands, ∀ seq ∈ [2, 7],
      (padAt .config true seq cmd).pad.connected = true ∧ (padAt .config true seq cmd).pad.mode = .config ∧
        2 ≤ (padAt .config true seq cmd).pad.seq ∧ (padAt .config true seq cmd).pad.seq ≤ 7 ∧
        (padAt .config true seq cmd).pad.cmd = cmd ∧ (padAt .config true seq cmd).pad.seq - 2 < 6) ∧
      true = decide ((padAt .config true 2 0x42).pad.seq ≠ 7) ∧ false = decide ((padAt .config true 7 0x42).pad.seq ≠ 7) := by decide

theorem witness_PollDialogue :
    atRest .normal (padAt .normal false 0 0).pad ∧ (padAt .normal false 0 0).pad.analog = false ∧ 3 ≤ [0x00#8, 0x00, 0x00].length ∧
      atRest .normal (padAt .normal true 0 0).pad ∧ (padAt .normal true 0 0).pad.analog = true ∧
      7 ≤ [0x00#8, 0x00, 0x00, 0x00, 0x00, 0x00, 0x00].length ∧ 0x42#8 ≠ 0x43 := by
  unfold atRest; decide

theorem witness_ConfigEntryDialogue :
    atRest .normal (padAt .normal false 0 0).pad ∧ (padAt .normal false 0 0).pad.analog = false ∧
      atRest .normal (padAt .normal true 0 0).pad ∧ (padAt .normal true 0 0).pad.analog = true ∧
      5 ≤ [0x00#8, 0x00, 0x00, 0x00, 0x00].length := by
  unfold atRest; decide

theorem witness_ConfigReadDialogues : atRest .config (padAt .config true 0 0).pad := by unfold atRest; decide
theorem witness_ConfigExitAndLedDialogues : atRest .config (padAt .config false 0 0).pad := by unfold atRest; decide
theorem witness_ConfigSelectorDialogues : atRest .config (padAt .config true 0 0).pad := by unfold atRest; decide
theorem witness_RumbleDialogueExchangesSlots : atRest .config (padAt .config true 0 0).pad := by unfold atRest; decide

theorem witness_DialoguesOnDisconnectedPad :
    encode (.padNPoll 0x42 []) = .dialogue .normal [0x42] ∧ encode (.padC4D 0 1 2 3 4 5 6) = .dialogue .config [0x4D, 0, 1, 2, 3, 4, 5, 6] ∧
      s0.pad.connected = false := by decide

/-- A name that is no key of a list: one longer than every key. -/
theorem lookup_longer (l : List (String × Profile)) (n : Nat) (h : (l.map (fun p => p.1.length)).sum < n) :
    l.lookup (String.ofList (List.replicate n 'x')) = none := by
  induction l with
  | nil => rfl
  | cons p rest ih =>
    simp only [List.map_cons, List.sum_cons] at h
    have hne : String.ofList (List.replicate n 'x') ≠ p.1 := by
      intro e
      have := congrArg String.length e
      simp at this
      omega
    rw [List.lookup_cons, beq_false_of_ne hne]
    exact ih (by omega)

/-- The table of profiles is open but finite, so some name has no profile. -/
theorem witness_PollOfUnknownDeviceIgnored : ∃ snap : Snapshot, Config.profileOf snap.name = none :=
  ⟨{ name := String.ofList (List.replicate ((Config.padProfiles.map (fun p => p.1.length)).sum + 1) 'x'), down := [], axes := [],
      restAxes := none }, lookup_longer _ _ (Nat.lt_succ_self _)⟩

/-- A snapshot that gives every axis covers the axes of every profile; a profile and a snapshot that lacks one axis; one just outside. -/
theorem witness_PollUpdatesInputRegisters :
    (∀ prof, Config.profileOf "padA" = some prof →
      coversAxes prof { name := "padA", down := [8, 9], axes := [(0, q 1 1)], restAxes := some (q (-1) 1) }) ∧
      coversAxes exampleProfile (snapA [] 1 (-1) 0 0) ∧
      ¬coversAxes exampleProfile { snapA [] 0 0 0 0 with axes := [(0, q 0 1), (1, q 0 1), (2, q 0 1)] } ∧
      ¬coversAxes exampleProfile { snapA [] 0 0 0 0 with axes := [(0, q 0 1), (1, q 0 1), (2, q 0 1), (3, q 256 255)] } := by
  refine ⟨fun prof _ i _ => ?_, ?_, ?_, ?_⟩
  · by_cases h : i = 0
    · exact ⟨q 1 1, by subst h; rfl, by decide⟩
    · exact ⟨q (-1) 1, by simp [axisValue, List.lookup_cons, beq_false_of_ne h], by decide⟩
  · intro i hi
    simp only [exampleProfile, List.mem_cons, List.not_mem_nil, or_false] at hi
    rcases hi with rfl | rfl | rfl | rfl
    · exact ⟨_, rfl, by decide⟩
    · exact ⟨_, rfl, by decide⟩
    · exact ⟨_, rfl, by decide⟩
    · exact ⟨_, rfl, by decide⟩
  · intro h
    obtain ⟨a, ha, -⟩ := h 3 (by decide)
    cases (show none = some a from ha)
  · intro h
    obtain ⟨a, ha, hr⟩ := h 3 (by decide)
    cases (show some (q 256 255) = some a from ha)
    exact absurd hr (by decide)

theorem witness_DecodeOfEncodeIsIdentity :
    (Instr.wr32Ctrl 6 0xFFFFFFFF).wellFormed = true ∧ (Instr.triggerCh 6).wellFormed = true ∧
      (Instr.beginPrim 0x7FFFFFFF rctx).wellFormed = true ∧ (Instr.poll (snapA [8, 9] 1 (-1) 0 0)).wellFormed = true ∧
      (Instr.padNCfg [0, 1]).wellFormed = true := by decide

/-- One completing operation of each unit, and a second state that agrees on that unit and differs on the others. -/
theorem witness_UnitsAreIndependent :
    (unitOf (.setIrq 3) = .dma ∧ (∃ t, exec (.setIrq 3) s0 = .next t) ∧ (padAt .config true 0 0).dma = s0.dma) ∧
      (unitOf .draw = .gpa ∧ (∃ t, exec .draw squareReady = .next t) ∧ { busy with gpa := squareReady.gpa }.gpa = squareReady.gpa) ∧
      unitOf (.xchg 0x42) = .pad ∧ (∃ t, exec (.xchg 0x42) s0 = .next t) ∧ busy.pad = s0.pad :=
  ⟨⟨rfl, ⟨_, rfl⟩, rfl⟩, ⟨rfl, ⟨_, rfl⟩, rfl⟩, rfl, ⟨_, rfl⟩, rfl⟩

/-- The state of vector T5 with one more operation pending: it satisfies the invariant and steps. -/
theorem witness_StepKeepsInvariant :
    State.inv { bound with pending := [.operation (.busWrite32 0x1F8010A8 0x01000401)] } ∧
      ∃ t, step { bound with pending := [.operation (.busWrite32 0x1F8010A8 0x01000401)] } = .next t := by
  refine ⟨⟨?_, rfl, rfl, rfl, ?_⟩, ⟨_, rfl⟩⟩
  · unfold Channel.inv Channel.active; decide
  · unfold Pad.inv; decide

theorem witness_StepPerformsNextInput :
    { s0 with pending := [.operation .callHasIrq] }.pending = .operation .callHasIrq :: [] ∧
      decodesTo .callHasIrq .hasIrq ∧ { s0 with pending := [.bindEngine 1] }.pending = .bindEngine 1 :: [] ∧ s0.pending = [] := by decide

end Sys2Proof.Tests
end

section
/-! The step, one equation per form of the list of pending inputs, and the statements of spec/00_scope.md settled from them. -/

namespace Sys2Proof.Machine

/-- The idle step of the passive block (R10). -/
theorem step_of_pending_nil {s : State} (h : s.pending = []) : step s = .next s := by
  simp only [step, h]

theorem step_of_pending_operation {s : State} {r : Request} {rest : List Input} (h : s.pending = .operation r :: rest) :
    step s = performRequest r { s with pending := rest } := by
  simp only [step, h]

theorem step_of_pending_bindEngine {s : State} {agent : Nat} {rest : List Input} (h : s.pending = .bindEngine agent :: rest) :
    step s = .next (bindEngine agent { s with pending := rest }) := by
  simp only [step, h]

theorem performRequest_of_decode_ok {r : Request} {i : Instr} (h : decode r = .ok i) (s : State) :
    performRequest r s = exec i s := by
  simp only [performRequest, h]

/-- Through this equation a statement about `exec` reaches a run (R87). -/
theorem step_of_decode_ok {s : State} {r : Request} {i : Instr} {rest : List Input} (hpending : s.pending = .operation r :: rest)
    (hdecode : decode r = .ok i) : step s = exec i { s with pending := rest } :=
  (step_of_pending_operation hpending).trans (performRequest_of_decode_ok hdecode _)

/-- Settles O59: one equation of `step` for each form of the list of pending inputs. -/
theorem stepPerformsNextInput : Obligations.StepPerformsNextInput := by
  unfold Obligations.StepPerformsNextInput
  intro s
  refine ⟨?operation, ?binding, ?idle⟩
  case operation => exact fun _ _ _ hpending hdecode => step_of_decode_ok hpending hdecode
  case binding => exact fun _ _ hpending => step_of_pending_bindEngine hpending
  case idle => exact step_of_pending_nil

end Sys2Proof.Machine
end

section
/-! Which shared operation each operation of the table is, and the rules about the three units that hold for all 122 of them: no
operation reaches into another unit (spec/10_state.md R66), what moves an interrupt flag (R41), what every step keeps (R31 to R59). -/

namespace Sys2Proof.Machine

/-! ## The 122 operations as shared operations -/

/-- A write of global DMA fields that leaves the channels, the flags, the invocation and the dispatch alone. -/
def KeepsTransfers (f : Dma → Dma) : Prop :=
  ∀ d, (f d).ch = d.ch ∧ (f d).flags = d.flags ∧ (f d).inCallback = d.inCallback ∧ (f d).dispatching = d.dispatching

/-- An operation, the unit it is performed on, and the shared operation (Machine/Ops.lean) that is its meaning. -/
inductive Means : Instr → BlockUnit → (State → Out) → Prop
  | answer {i : Instr} (f : Dma → Result) : Means i .dma (fun s => .next (s.reply (f s.dma)))
  | maskTest (n : Nat) : Means (.irqEn n) .dma (fun s => withChannel n (fun ch => .next (s.reply (.bit (irqEnabled s.dma ch)))))
  | baseWrite {i : Instr} (n : Chan) (v : Word) : Means i .dma (channelWrite n (loadBase v))
  | blockWrite {i : Instr} (n : Chan) (v : Word) : Means i .dma (channelWrite n (loadBlock v))
  | controlWord (n : Chan) (v : Word) : Means (.wr32Ctrl n v) .dma (ctrlWrite n v)
  | controlHalf (n : Chan) (h : Half) : Means (.wr16Ctrl n h) .dma (ctrlWrite n (widen h))
  | globalWrite {i : Instr} (f : Dma → Dma) (hf : KeepsTransfers f) : Means i .dma (busWrite f)
  | dicrWord (v : Word) : Means (.wr32Dicr v) .dma (busWrite (loadDicr v))
  | dicrHigh (h : Half) : Means (.wr16DicrH h) .dma (busWrite (loadDicrH h))
  | dicrByte3 (b : Byte) : Means (.wr8Dicr3 b) .dma (busWrite (loadDicr3 b))
  | setIrq (n : Nat) : Means (.setIrq n) .dma (fun s => withChannel n (fun ch => .next (s.setDma (s.dma.setIrq ch))))
  | doneCh (n : Nat) : Means (.doneCh n) .dma (fun s => withChannel n (fun ch => .next (s.setDma (s.dma.done ch))))
  | triggerCh (n : Nat) : Means (.triggerCh n) .dma (fun s => withChannel n (fun ch => trigger ch s))
  | beginPrim {i : Instr} (w0 : Word) (ctx : DrawCtx) : Means i .gpa (gpaBegin w0 ctx)
  | addWord {i : Instr} (w : Word) : Means i .gpa (gpaAdd w)
  | ready {i : Instr} : Means i .gpa gpaReady
  | draw {i : Instr} : Means i .gpa gpaDraw
  | primitive {i : Instr} (ctx : DrawCtx) (w0 : Word) (ws : List Word) : Means i .gpa (runPrimitive ctx w0 ws)
  | exchange {i : Instr} (d : Byte) : Means i .pad (padExchange d)
  | poll {i : Instr} (prof : Option Profile) (snap : Snapshot) : Means i .pad (pollWith prof snap)
  | connect {i : Instr} (c : Bool) : Means i .pad (fun s => .next (s.setPad { s.pad with connected := c } .completed))
  | dialogue {i : Instr} (bytes : List Byte) : Means i .pad (padDialogue bytes)

/-- The one walk over the table: every later proof splits the shared operations instead. -/
theorem exec_means (i : Instr) : Means i (unitOf i) (exec i) := by
  cases i
  case rd32Base n => exact .answer fun d => .word (packBase (d.chan n))
  case rd16Base n => exact .answer fun d => .half (lowHalf (packBase (d.chan n)))
  case rd32Block n => exact .answer fun d => .word (packBlock (d.chan n))
  case rd16Block n => exact .answer fun d => .half (lowHalf (packBlock (d.chan n)))
  case rd32Ctrl n => exact .answer fun d => .word (packCtrl (d.chan n))
  case rd16Ctrl n => exact .answer fun d => .half (lowHalf (packCtrl (d.chan n)))
  case rd8Base n k | wr8Base n k _ => exact .answer fun _ => .error (.unhandledAddress (channelByteAddr n 0x0#32 k))
  case rd8Block n k | wr8Block n k _ => exact .answer fun _ => .error (.unhandledAddress (channelByteAddr n 0x4#32 k))
  case rd8Ctrl n k | wr8Ctrl n k _ => exact .answer fun _ => .error (.unhandledAddress (channelByteAddr n 0x8#32 k))
  case rd32Dpcr => exact .answer fun d => .word d.dpcr
  case rd16Dpcr => exact .answer fun d => .half (lowHalf d.dpcr)
  case rd32Dicr => exact .answer fun d => .word (packDicr d)
  case rd16DicrL => exact .answer fun d => .half (packDicrL d)
  case rd16DicrH => exact .answer fun d => .half (packDicrH d)
  case rd8Dicr0 => exact .answer fun d => .byte (packDicr0 d)
  case rd8Dicr1 => exact .answer fun d => .byte (packDicr1 d)
  case rd8Dicr2 => exact .answer fun d => .byte (packDicr2 d)
  case rd8Dicr3 => exact .answer fun d => .byte (packDicr3 d)
  case hasIrq => exact .answer fun d => .bit (masterFlag d)
  case irqEn n => exact .maskTest n
  case wr32Base n v => exact .baseWrite n v
  case wr16Base n h => exact .baseWrite n (widen h)
  case wr32Block n v => exact .blockWrite n v
  case wr16Block n h => exact .blockWrite n (widen h)
  case wr32Ctrl n v => exact .controlWord n v
  case wr16Ctrl n h => exact .controlHalf n h
  case wr32Dpcr v => exact .globalWrite (fun d => { d with dpcr := v }) fun _ => ⟨rfl, rfl, rfl, rfl⟩
  case wr16Dpcr h => exact .globalWrite (fun d => { d with dpcr := widen h }) fun _ => ⟨rfl, rfl, rfl, rfl⟩
  case wr16DicrL h => exact .globalWrite (loadDicrL h) fun _ => ⟨rfl, rfl, rfl, rfl⟩
  case wr8Dicr0 b => exact .globalWrite (loadDicr0 b) fun _ => ⟨rfl, rfl, rfl, rfl⟩
  case wr8Dicr1 b => exact .globalWrite (loadDicr1 b) fun _ => ⟨rfl, rfl, rfl, rfl⟩
  case wr8Dicr2 b => exact .globalWrite (loadDicr2 b) fun _ => ⟨rfl, rfl, rfl, rfl⟩
  case wr32Dicr v => exact .dicrWord v
  case wr16DicrH h => exact .dicrHigh h
  case wr8Dicr3 b => exact .dicrByte3 b
  case setIrq n => exact .setIrq n
  case doneCh n => exact .doneCh n
  case triggerCh n => exact .triggerCh n
  case beginPrim w0 ctx => exact .beginPrim w0 ctx
  case addWord w => exact .addWord w
  case ready => exact .ready
  case draw => exact .draw
  case xchg d => exact .exchange d
  case poll snap => exact .poll _ snap
  case connect c => exact .connect c
  case padNPoll | padNCfg | padC42 | padC43 | padC44 | padC45 | padC46 | padC47 | padC4C | padC4D => exact .dialogue _
  -- What is left are the 64 primitives of the table, each a whole command stream.
  all_goals exact .primitive _ _ _

/-! ## Each unit alone (spec/10_state.md R66) -/

/-- The other two units are as before. -/
def onlyUnit (u : BlockUnit) (s t : State) : Prop :=
  match u with
  | .dma => t.gpa = s.gpa ∧ t.toRenderer = s.toRenderer ∧ t.pad = s.pad
  | .gpa => t.dma = s.dma ∧ t.pad = s.pad
  | .pad => t.dma = s.dma ∧ t.gpa = s.gpa ∧ t.toRenderer = s.toRenderer

/-- Two states agree on one unit. -/
def sameUnit (u : BlockUnit) (s s' : State) : Prop :=
  match u with
  | .dma => s'.dma = s.dma
  | .gpa => s'.gpa = s.gpa
  | .pad => s'.pad = s.pad

/-- An operation that writes one unit and depends on nothing of the others. -/
structure ActsOn (u : BlockUnit) (f : State → Out) : Prop where
  frame : ∀ {s t : State}, f s = .next t → onlyUnit u s t
  reads : ∀ {s t s' : State}, f s = .next t → sameUnit u s s' → ∃ t', f s' = .next t' ∧ sameUnit u t t' ∧ t'.result = t.result

theorem onlyUnit_trans {u : BlockUnit} {s t r : State} (h : onlyUnit u s t) (h' : onlyUnit u t r) : onlyUnit u s r := by
  cases u
  case dma => exact ⟨h'.1.trans h.1, h'.2.1.trans h.2.1, h'.2.2.trans h.2.2⟩
  case gpa => exact ⟨h'.1.trans h.1, h'.2.trans h.2⟩
  case pad => exact ⟨h'.1.trans h.1, h'.2.1.trans h.2.1, h'.2.2.trans h.2.2⟩

theorem ActsOn.andThen {u : BlockUnit} {f g : State → Out} (hf : ActsOn u f) (hg : ActsOn u g) :
    ActsOn u (fun s => Machine.andThen (f s) g) where
  frame h := by
    obtain ⟨r, hr, ht⟩ := andThen_eq_next.1 h
    exact onlyUnit_trans (hf.frame hr) (hg.frame ht)
  reads h hs := by
    obtain ⟨r, hr, ht⟩ := andThen_eq_next.1 h
    obtain ⟨r', hr', hsame, _⟩ := hf.reads hr hs
    obtain ⟨t', ht', hout⟩ := hg.reads ht hsame
    exact ⟨t', andThen_eq_next.2 ⟨r', hr', ht'⟩, hout⟩

theorem ActsOn.withChannel {u : BlockUnit} {f : Chan → State → Out} (hf : ∀ ch, ActsOn u (f ch)) (n : Nat) :
    ActsOn u (fun s => Machine.withChannel n (fun ch => f ch s)) where
  frame h := by
    obtain ⟨hn, ht⟩ := withChannel_eq_next.1 h
    exact (hf ⟨n, hn⟩).frame ht
  reads h hs := by
    obtain ⟨hn, ht⟩ := withChannel_eq_next.1 h
    obtain ⟨t', ht', hout⟩ := (hf ⟨n, hn⟩).reads ht hs
    exact ⟨t', withChannel_eq_next.2 ⟨hn, ht'⟩, hout⟩

/-! ### DMA -/

theorem answer_actsOn (f : Dma → Result) : ActsOn .dma (fun s => .next (s.reply (f s.dma))) where
  frame h := by obtain rfl := next_eq_next.1 h; exact ⟨rfl, rfl, rfl⟩
  reads h hs := by obtain rfl := next_eq_next.1 h; exact ⟨_, rfl, hs, congrArg f hs⟩

theorem setDma_actsOn (f : Dma → Dma) : ActsOn .dma (fun s => .next (s.setDma (f s.dma))) where
  frame h := by obtain rfl := next_eq_next.1 h; exact ⟨rfl, rfl, rfl⟩
  reads h hs := by obtain rfl := next_eq_next.1 h; exact ⟨_, rfl, congrArg f hs, rfl⟩

theorem busWrite_actsOn (f : Dma → Dma) : ActsOn .dma (busWrite f) where
  frame h := by obtain ⟨_, rfl⟩ := busWrite_eq_next.1 h; exact ⟨rfl, rfl, rfl⟩
  reads h hs := by
    obtain ⟨hc, rfl⟩ := busWrite_eq_next.1 h
    exact ⟨_, busWrite_eq_next.2 ⟨(congrArg Dma.inCallback hs).trans hc, rfl⟩, congrArg f hs, rfl⟩

theorem channelWrite_actsOn (n : Chan) (f : Channel → Channel) : ActsOn .dma (channelWrite n f) :=
  busWrite_actsOn fun d => d.setChan n (f (d.chan n))

theorem trigger_actsOn (n : Chan) : ActsOn .dma (trigger n) where
  frame h := by obtain ⟨_, _, _, rfl⟩ := trigger_eq_next.1 h; exact ⟨rfl, rfl, rfl⟩
  reads {s t s'} h hs := by
    obtain ⟨hc, hd, he, rfl⟩ := trigger_eq_next.1 h
    have hs : s'.dma = s.dma := hs
    exact ⟨_, trigger_eq_next.2 ⟨hs ▸ hc, hs ▸ hd, hs ▸ he, rfl⟩, by simp only [sameUnit, hs], rfl⟩

theorem ctrlWrite_actsOn (n : Chan) (v : Word) : ActsOn .dma (ctrlWrite n v) where
  frame {s t} h := by
    obtain ⟨_, rfl⟩ | ⟨m, _, _, ⟨_, rfl⟩ | ⟨_, ht⟩⟩ := ctrlWrite_eq_next.1 h
    · exact ⟨rfl, rfl, rfl⟩
    · exact ⟨rfl, rfl, rfl⟩
    · exact onlyUnit_trans (t := s.setDma _) ⟨rfl, rfl, rfl⟩ ((trigger_actsOn n).frame ht)
  reads {s t s'} h hs := by
    have hs : s'.dma = s.dma := hs
    obtain ⟨hm, rfl⟩ | ⟨m, hm, hc, ⟨ha, rfl⟩ | ⟨ha, ht⟩⟩ := ctrlWrite_eq_next.1 h
    · exact ⟨_, ctrlWrite_eq_next.2 (.inl ⟨hm, rfl⟩), hs, rfl⟩
    · exact ⟨_, ctrlWrite_eq_next.2 (.inr ⟨m, hm, hs ▸ hc, .inl ⟨hs ▸ ha, rfl⟩⟩), by simp [sameUnit, hs], rfl⟩
    · have hstored : sameUnit .dma (s.setDma ((s.dma.setChan n (loadCtrl v m (s.dma.chan n))).startDispatch n))
          (s'.setDma ((s'.dma.setChan n (loadCtrl v m (s'.dma.chan n))).startDispatch n)) := by simp [sameUnit, hs]
      obtain ⟨t', ht', hout⟩ := (trigger_actsOn n).reads ht hstored
      exact ⟨t', ctrlWrite_eq_next.2 (.inr ⟨m, hm, hs ▸ hc, .inr ⟨hs ▸ ha, ht'⟩⟩), hout⟩

/-! ### GPA -/

theorem gpaBegin_actsOn (w0 : Word) (ctx : DrawCtx) : ActsOn .gpa (gpaBegin w0 ctx) where
  frame h := by obtain ⟨_, rfl⟩ | ⟨_, _, rfl⟩ := gpaBegin_eq_next.1 h <;> exact ⟨rfl, rfl⟩
  reads h _ := by
    obtain ⟨hp, rfl⟩ | ⟨hp, hr, rfl⟩ := gpaBegin_eq_next.1 h
    · exact ⟨_, gpaBegin_eq_next.2 (.inl ⟨hp, rfl⟩), rfl, rfl⟩
    · exact ⟨_, gpaBegin_eq_next.2 (.inr ⟨hp, hr, rfl⟩), rfl, rfl⟩

theorem gpaAdd_actsOn (w : Word) : ActsOn .gpa (gpaAdd w) where
  frame h := by obtain ⟨_, _, _, rfl⟩ := gpaAdd_eq_next.1 h; exact ⟨rfl, rfl⟩
  reads {s t s'} h hs := by
    obtain ⟨e, he, hlt, rfl⟩ := gpaAdd_eq_next.1 h
    have hs : s'.gpa = s.gpa := hs
    exact ⟨_, gpaAdd_eq_next.2 ⟨e, hs ▸ he, hs ▸ hlt, rfl⟩, by simp [sameUnit, hs], rfl⟩

theorem gpaReady_actsOn : ActsOn .gpa gpaReady where
  frame h := by obtain ⟨_, _, rfl⟩ := gpaReady_eq_next.1 h; exact ⟨rfl, rfl⟩
  reads {s t s'} h hs := by
    obtain ⟨e, he, rfl⟩ := gpaReady_eq_next.1 h
    have hs : s'.gpa = s.gpa := hs
    exact ⟨_, gpaReady_eq_next.2 ⟨e, hs ▸ he, rfl⟩, hs, by simp [hs]⟩

theorem gpaDraw_actsOn : ActsOn .gpa gpaDraw where
  frame h := by obtain ⟨_, _, _, rfl⟩ | ⟨_, _, _, rfl⟩ := gpaDraw_eq_next.1 h <;> exact ⟨rfl, rfl⟩
  reads {s t s'} h hs := by
    have hs : s'.gpa = s.gpa := hs
    obtain ⟨p, hp, hl, rfl⟩ | ⟨r, hr, hl, rfl⟩ := gpaDraw_eq_next.1 h
    · exact ⟨_, gpaDraw_eq_next.2 (.inl ⟨p, hs ▸ hp, hs ▸ hl, rfl⟩), by simp [sameUnit, hs], rfl⟩
    · exact ⟨_, gpaDraw_eq_next.2 (.inr ⟨r, hs ▸ hr, hs ▸ hl, rfl⟩), hs, rfl⟩

theorem andThen_assoc (o : Out) (f g : State → Out) : andThen (andThen o f) g = andThen o (fun s => andThen (f s) g) := by
  cases o <;> rfl

/-- The words of a stream, then an operation: the operation at the end fixes the result even if there is no word. -/
theorem gpaAddAll_then_actsOn {g : State → Out} (hg : ActsOn .gpa g) (ws : List Word) :
    ActsOn .gpa (fun s => andThen (gpaAddAll ws s) g) := by
  induction ws with
  | nil => exact hg
  | cons w rest ih =>
    have hchain := (gpaAdd_actsOn w).andThen ih
    simp only [gpaAddAll, andThen_assoc]
    exact hchain

theorem runPrimitive_actsOn (ctx : DrawCtx) (w0 : Word) (ws : List Word) : ActsOn .gpa (runPrimitive ctx w0 ws) :=
  (gpaBegin_actsOn w0 ctx).andThen (gpaAddAll_then_actsOn gpaDraw_actsOn (w0 :: ws))

/-! ### PAD -/

theorem padExchange_actsOn (d : Byte) : ActsOn .pad (padExchange d) where
  frame h := by obtain ⟨_, _, rfl⟩ | ⟨_, _, rfl⟩ := padExchange_eq_next.1 h <;> exact ⟨rfl, rfl, rfl⟩
  reads {s t s'} h hs := by
    have hs : s'.pad = s.pad := hs
    obtain ⟨x, hx, rfl⟩ | ⟨e, he, rfl⟩ := padExchange_eq_next.1 h
    · exact ⟨_, padExchange_eq_next.2 (.inl ⟨x, hs ▸ hx, rfl⟩), rfl, rfl⟩
    · exact ⟨_, padExchange_eq_next.2 (.inr ⟨e, hs ▸ he, rfl⟩), hs, rfl⟩

theorem padDialogue_actsOn (bytes : List Byte) : ActsOn .pad (padDialogue bytes) where
  frame h := by obtain ⟨_, rfl⟩ := padDialogue_eq_next.1 h; exact ⟨rfl, rfl, rfl⟩
  reads {s t s'} h hs := by
    have hs : s'.pad = s.pad := hs
    obtain ⟨hc, rfl⟩ := padDialogue_eq_next.1 h
    exact ⟨_, padDialogue_eq_next.2 ⟨hs ▸ hc, rfl⟩, by simp [sameUnit, hs], by simp [hs]⟩

theorem pollWith_actsOn (prof : Option Profile) (snap : Snapshot) : ActsOn .pad (pollWith prof snap) where
  frame h := by obtain ⟨_, rfl⟩ | ⟨_, _, _, _, rfl⟩ := pollWith_eq_next.1 h <;> exact ⟨rfl, rfl, rfl⟩
  reads {s t s'} h hs := by
    have hs : s'.pad = s.pad := hs
    obtain ⟨hp, rfl⟩ | ⟨p, q, hp, hq, rfl⟩ := pollWith_eq_next.1 h
    · exact ⟨_, pollWith_eq_next.2 (.inl ⟨hp, rfl⟩), hs, rfl⟩
    · exact ⟨_, pollWith_eq_next.2 (.inr ⟨p, q, hp, hs ▸ hq, rfl⟩), rfl, rfl⟩

theorem connect_actsOn (c : Bool) : ActsOn .pad (fun s => .next (s.setPad { s.pad with connected := c } .completed)) where
  frame h := by obtain rfl := next_eq_next.1 h; exact ⟨rfl, rfl, rfl⟩
  reads {s t s'} h hs := by
    have hs : s'.pad = s.pad := hs
    obtain rfl := next_eq_next.1 h
    exact ⟨_, rfl, by simp [sameUnit, hs], rfl⟩

/-! ### The table -/

theorem Means.actsOn {i : Instr} {u : BlockUnit} {f : State → Out} (h : Means i u f) : ActsOn u f := by
  cases h
  case answer f => exact answer_actsOn f
  case maskTest n => exact .withChannel (fun ch => answer_actsOn fun d => .bit (irqEnabled d ch)) n
  case baseWrite | blockWrite => exact channelWrite_actsOn _ _
  case globalWrite | dicrWord | dicrHigh | dicrByte3 => exact busWrite_actsOn _
  case controlWord n v => exact ctrlWrite_actsOn n v
  case controlHalf n h => exact ctrlWrite_actsOn n (widen h)
  case setIrq n => exact .withChannel (fun ch => setDma_actsOn fun d => d.setIrq ch) n
  case doneCh n => exact .withChannel (fun ch => setDma_actsOn fun d => d.done ch) n
  case triggerCh n => exact .withChannel trigger_actsOn n
  case beginPrim w0 ctx => exact gpaBegin_actsOn w0 ctx
  case addWord w => exact gpaAdd_actsOn w
  case ready => exact gpaReady_actsOn
  case draw => exact gpaDraw_actsOn
  case primitive ctx w0 ws => exact runPrimitive_actsOn ctx w0 ws
  case exchange d => exact padExchange_actsOn d
  case poll prof snap => exact pollWith_actsOn prof snap
  case connect c => exact connect_actsOn c
  case dialogue bytes => exact padDialogue_actsOn bytes

theorem exec_actsOn (i : Instr) : ActsOn (unitOf i) (exec i) := (exec_means i).actsOn

/-- Settles O55: every shared operation acts on its unit alone, and chains of such operations do. -/
theorem unitsAreIndependent : Obligations.UnitsAreIndependent := by
  unfold Obligations.UnitsAreIndependent
  intro i s t h
  have hact := exec_actsOn i
  generalize unitOf i = u at hact ⊢
  have hframe := hact.frame h
  cases u
  case dma =>
    obtain ⟨hgpa, hrenderer, hpad⟩ := hframe
    exact ⟨fun hne => absurd rfl hne, fun _ => ⟨hgpa, hrenderer⟩, fun _ => hpad, fun _ => ⟨fun _ => hact.reads h, nofun, nofun⟩⟩
  case gpa =>
    obtain ⟨hdma, hpad⟩ := hframe
    exact ⟨fun _ => hdma, fun hne => absurd rfl hne, fun _ => hpad, fun _ => ⟨nofun, fun _ => hact.reads h, nofun⟩⟩
  case pad =>
    obtain ⟨hdma, hgpa, hrenderer⟩ := hframe
    exact ⟨fun _ => hdma, fun _ => ⟨hgpa, hrenderer⟩, fun hne => absurd rfl hne, fun _ => ⟨nofun, nofun, fun _ => hact.reads h⟩⟩

end Sys2Proof.Machine
end

section
/-! What a completed transfer leaves, and what an operation does to the interrupt flags (spec/10_state.md R41, spec/60_exceptions.md R340, R341). -/

namespace Sys2Proof.Machine

theorem setFlag_getLsbD (flags : BitVec 7) (n m : Chan) :
    (setFlag flags n).getLsbD m.val = (flags.getLsbD m.val || decide (m = n)) := by
  simp only [setFlag, BitVec.getLsbD_or]
  congr 1
  revert n m; decide

theorem clearFlags_getLsbD (flags c : BitVec 7) (m : Chan) :
    (clearFlags flags c).getLsbD m.val = (flags.getLsbD m.val && !c.getLsbD m.val) := by
  simp [clearFlags, m.isLt]

/-- The channels after a completed transfer: channel `n` is done (41 R197; Log 5). -/
theorem dispatch_chan (d : Dma) (n m : Chan) : (engineRun d.enterCallback n).leaveCallback.chan m = (d.done n).chan m := by
  rw [engineRun_eq]
  rfl

/-- The flag of a completed transfer (41 R197, R198; Log 5). -/
theorem dispatch_flags (d : Dma) (n : Chan) :
    (engineRun d.enterCallback n).leaveCallback.flags = if d.mask.getLsbD n.val then setFlag d.flags n else d.flags := by
  simp [engineRun_eq, irqEnabled]

/-- The flags at which an operation writes 1 in DICR. -/
def flagsWrittenOne (i : Instr) : BitVec 7 :=
  match i with
  | .wr32Dicr v => v.extractLsb' 24 7
  | .wr16DicrH h => h.extractLsb' 8 7
  | .wr8Dicr3 b => b.extractLsb' 0 7
  | _ => 0

/-- The operations that may set flag `n`: `SETIRQ`, and with the mask bit set a transfer of channel `n`. -/
def maySetFlag (i : Instr) (s : State) (n : Chan) : Prop :=
  i = .setIrq n.val ∨ (s.dma.mask.getLsbD n.val = true ∧ (i = .triggerCh n.val ∨ ∃ v, i = .wr32Ctrl n v))

/-- The three things an operation can do to the flags. -/
inductive MovesFlags (i : Instr) (s t : State) : Prop
  | keeps (h : t.dma.flags = s.dma.flags)
  | sets (n : Chan) (hn : maySetFlag i s n) (h : t.dma.flags = setFlag s.dma.flags n)
  | clears (h : t.dma.flags = clearFlags s.dma.flags (flagsWrittenOne i))

theorem trigger_movesFlags {i : Instr} {n : Chan} {s t : State} (hi : i = .triggerCh n.val ∨ ∃ v, i = .wr32Ctrl n v)
    (h : trigger n s = .next t) : MovesFlags i s t := by
  obtain ⟨_, _, _, rfl⟩ := trigger_eq_next.1 h
  have hflags := dispatch_flags s.dma n
  by_cases hmask : s.dma.mask.getLsbD n.val = true
  · rw [if_pos hmask] at hflags
    exact .sets n (.inr ⟨hmask, hi⟩) hflags
  · rw [if_neg hmask] at hflags
    exact .keeps hflags

/-- The flags and the mask that a control write hands to its dispatch are those before the write. -/
theorem ctrlWrite_movesFlags {n : Chan} {v : Word} {s t : State} (h : ctrlWrite n v s = .next t) :
    MovesFlags (.wr32Ctrl n v) s t := by
  obtain ⟨_, rfl⟩ | ⟨m, _, _, ⟨_, rfl⟩ | ⟨_, ht⟩⟩ := ctrlWrite_eq_next.1 h
  · exact .keeps rfl
  · exact .keeps rfl
  · cases trigger_movesFlags (.inr ⟨v, rfl⟩) ht with
    | keeps hflags => exact .keeps hflags
    | sets k hk hflags => exact .sets k hk hflags
    | clears hflags => exact .clears hflags

theorem ctrlWrite_widen_flags {n : Chan} {k : Half} {s t : State} (h : ctrlWrite n (widen k) s = .next t) :
    t.dma.flags = s.dma.flags := by
  obtain ⟨_, rfl⟩ | ⟨m, _, _, ⟨_, rfl⟩ | ⟨ha, _⟩⟩ := ctrlWrite_eq_next.1 h
  · rfl
  · rfl
  · simp [isActive_loadCtrl_widen] at ha

theorem Means.movesFlags {i : Instr} {u : BlockUnit} {f : State → Out} {s t : State} (hm : Means i u f) (h : f s = .next t) :
    MovesFlags i s t := by
  have hframe := hm.actsOn.frame h
  cases hm
  case answer => obtain rfl := next_eq_next.1 h; exact .keeps rfl
  case maskTest => obtain ⟨_, h⟩ := withChannel_eq_next.1 h; obtain rfl := next_eq_next.1 h; exact .keeps rfl
  case baseWrite | blockWrite => obtain ⟨_, rfl⟩ := channelWrite_eq_next.1 h; exact .keeps rfl
  case controlWord => exact ctrlWrite_movesFlags h
  case controlHalf => exact .keeps (ctrlWrite_widen_flags h)
  case globalWrite hf =>
    obtain ⟨_, rfl⟩ := busWrite_eq_next.1 h
    obtain ⟨_, hflags, _, _⟩ := hf s.dma
    exact .keeps hflags
  case dicrWord | dicrHigh | dicrByte3 => obtain ⟨_, rfl⟩ := busWrite_eq_next.1 h; exact .clears rfl
  case setIrq =>
    obtain ⟨hn, h⟩ := withChannel_eq_next.1 h
    obtain rfl := next_eq_next.1 h
    exact .sets ⟨_, hn⟩ (.inl rfl) rfl
  case doneCh => obtain ⟨_, h⟩ := withChannel_eq_next.1 h; obtain rfl := next_eq_next.1 h; exact .keeps rfl
  case triggerCh =>
    obtain ⟨hn, h⟩ := withChannel_eq_next.1 h
    exact trigger_movesFlags (.inl rfl) h
  case beginPrim | addWord | ready | draw | primitive => exact .keeps (congrArg Dma.flags hframe.1)
  case exchange | poll | connect | dialogue => exact .keeps (congrArg Dma.flags hframe.1)

/-- A 1 among the flags written is one of the three accesses of O24 with a 1 at that position of its value. -/
theorem dicr_write_of_flagsWrittenOne {i : Instr} {m : Chan} (h : (flagsWrittenOne i).getLsbD m.val = true) :
    (∃ v : Word, i = .wr32Dicr v ∧ v.getLsbD (24 + m.val) = true) ∨
      (∃ k : Half, i = .wr16DicrH k ∧ k.getLsbD (8 + m.val) = true) ∨ ∃ b : Byte, i = .wr8Dicr3 b ∧ b.getLsbD m.val = true := by
  unfold flagsWrittenOne at h
  split at h
  case h_1 v => exact .inl ⟨v, rfl, by simpa using h⟩
  case h_2 k => exact .inr (.inl ⟨k, rfl, by simpa using h⟩)
  case h_3 b => exact .inr (.inr ⟨b, rfl, by simpa using h⟩)
  case h_4 => simp at h

/-- A bit that stays neither rises nor falls. -/
theorem neither_rises_nor_falls {a b : Bool} {P Q : Prop} (h : b = a) : (a = false → b = true → P) ∧ (a = true → b = false → Q) := by
  subst h
  cases b <;> simp

/-- Settles O24: an operation keeps the flags, sets one it may set, or clears those at which it writes 1. -/
theorem onlyNamedOperationsMoveFlags : Obligations.OnlyNamedOperationsMoveFlags := by
  unfold Obligations.OnlyNamedOperationsMoveFlags
  intro i s t m h
  cases (exec_means i).movesFlags h with
  | keeps hflags => exact neither_rises_nor_falls (by rw [hflags])
  | sets n hn hflags =>
    rw [hflags, setFlag_getLsbD]
    by_cases hmn : m = n
    · subst hmn
      exact ⟨fun _ _ => hn, fun hset hclear => by simp only [hset, Bool.true_or, Bool.true_eq_false] at hclear⟩
    · exact neither_rises_nor_falls (by simp only [hmn, decide_false, Bool.or_false])
  | clears hflags =>
    rw [hflags, clearFlags_getLsbD]
    refine ⟨fun hclear hset => ?_, fun hset hclear => dicr_write_of_flagsWrittenOne ?_⟩
    · simp only [hclear, Bool.false_and, Bool.false_eq_true] at hset
    · simpa only [hset, Bool.true_and, Bool.not_eq_false'] using hclear

end Sys2Proof.Machine
end

section
/-! The invariant of the machine under every step: each unit's part under the shared operations on that unit, and the other units' parts
by the frame of `ActsOn`. -/

namespace Sys2Proof.Machine

/-! ## DMA (spec/10_state.md R31 to R33, R43) -/

/-- The part of `State.inv` that speaks of DMA. -/
def Dma.inv (d : Dma) : Prop := (∀ n, (d.chan n).inv) ∧ d.inCallback = false ∧ d.dispatching = none

theorem State.inv_iff {s : State} : s.inv ↔ s.dma.inv ∧ s.gpa.inv ∧ s.pad.inv :=
  ⟨fun ⟨hch, hcall, hdisp, hgpa, hpad⟩ => ⟨⟨hch, hcall, hdisp⟩, hgpa, hpad⟩,
    fun ⟨⟨hch, hcall, hdisp⟩, hgpa, hpad⟩ => ⟨hch, hcall, hdisp, hgpa, hpad⟩⟩

theorem isActive_iff {c : Channel} : isActive c = true ↔ c.active := by
  unfold isActive Channel.active
  by_cases h : c.sync = .manual <;> simp [h, and_comm]

theorem blockField_mem (h : Half) : 1 ≤ blockField h ∧ blockField h ≤ 0x10000 := by
  unfold blockField
  split
  case isTrue => omega
  case isFalse hne =>
    have hpos : h.toNat ≠ 0 := fun h0 => hne (BitVec.eq_of_toNat_eq h0)
    have hlt := h.isLt
    omega

theorem Channel.inv_loadBase {c : Channel} (hc : c.inv) (v : Word) : (loadBase v c).inv := hc

theorem Channel.inv_loadBlock {c : Channel} (hc : c.inv) (v : Word) : (loadBlock v c).inv := by
  obtain ⟨_, _, _, _, hactive⟩ := hc
  obtain ⟨hsize1, hsize2⟩ := blockField_mem (lowHalf v)
  obtain ⟨hcount1, hcount2⟩ := blockField_mem (highHalf v)
  exact ⟨hsize1, hsize2, hcount1, hcount2, hactive⟩

theorem Channel.inv_loadCtrl {c : Channel} (hc : c.inv) {v : Word} {m : SyncMode} (h : isActive (loadCtrl v m c) = false) :
    (loadCtrl v m c).inv := by
  obtain ⟨hsize1, hsize2, hcount1, hcount2, _⟩ := hc
  exact ⟨hsize1, hsize2, hcount1, hcount2, fun hactive => by simp [isActive_iff.2 hactive] at h⟩

/-- A channel that is done is inactive, whatever was active before (41 R193). -/
theorem Channel.inv_done {c c' : Channel} (hc : c.inv) (hsize : c'.blockSize = c.blockSize) (hcount : c'.blockCount = c.blockCount) :
    Channel.inv { c' with enabled := false, trigger := false } := by
  obtain ⟨hsize1, hsize2, hcount1, hcount2, _⟩ := hc
  exact ⟨by rwa [hsize], by rwa [hsize], by rwa [hcount], by rwa [hcount], fun ⟨hon, _⟩ => Bool.false_ne_true hon⟩

theorem Dma.inv_setChan {d : Dma} (hd : d.inv) {c : Channel} (hc : c.inv) (n : Chan) : (d.setChan n c).inv := by
  obtain ⟨hch, hcall, hdisp⟩ := hd
  refine ⟨fun m => ?_, hcall, hdisp⟩
  rw [Dma.chan_setChan]
  split
  · exact hc
  · exact hch m

theorem Dma.inv_done {d : Dma} (hd : d.inv) (n : Chan) : (d.done n).inv :=
  inv_setChan hd (Channel.inv_done (hd.1 n) rfl rfl) n

theorem Dma.inv_keepsTransfers {f : Dma → Dma} (hf : KeepsTransfers f) {d : Dma} (hd : d.inv) : (f d).inv := by
  obtain ⟨hch, _, hcall, hdisp⟩ := hf d
  obtain ⟨hchans, hcall0, hdisp0⟩ := hd
  refine ⟨fun n => ?_, hcall.trans hcall0, hdisp.trans hdisp0⟩
  have hchan : (f d).chan n = d.chan n := by simp only [Dma.chan, hch]
  rw [hchan]
  exact hchans n

/-- A dispatch that returns: channel `n`, which the write may have made active, is done, and the others are as they were. -/
theorem Dma.inv_dispatch {d : Dma} (hd : d.inv) {c : Channel} (n : Chan) (hsize : c.blockSize = (d.chan n).blockSize)
    (hcount : c.blockCount = (d.chan n).blockCount) :
    (engineRun ((d.setChan n c).startDispatch n).enterCallback n).leaveCallback.inv := by
  refine ⟨fun m => ?_, rfl, rfl⟩
  rw [dispatch_chan, Dma.chan_done]
  split
  case isTrue =>
    rw [Dma.startDispatch_chan, Dma.chan_setChan, if_pos rfl]
    exact Channel.inv_done (hd.1 n) hsize hcount
  case isFalse hmn =>
    rw [Dma.startDispatch_chan, Dma.chan_setChan, if_neg hmn]
    exact hd.1 m

theorem ctrlWrite_keeps_inv {n : Chan} {v : Word} {s t : State} (hs : s.dma.inv) (h : ctrlWrite n v s = .next t) : t.dma.inv := by
  obtain ⟨_, rfl⟩ | ⟨m, _, _, ⟨ha, rfl⟩ | ⟨_, ht⟩⟩ := ctrlWrite_eq_next.1 h
  · exact hs
  · exact Dma.inv_setChan hs (Channel.inv_loadCtrl (hs.1 n) ha) n
  · obtain ⟨_, _, _, rfl⟩ := trigger_eq_next.1 ht
    exact Dma.inv_dispatch hs n rfl rfl

/-- In a state of the invariant no write is dispatching, so an agent's `TRIGGER` never completes (Log 25). -/
theorem trigger_ne_next_of_inv {n : Chan} {s t : State} (hs : s.dma.inv) : trigger n s ≠ .next t := by
  intro h
  obtain ⟨_, ⟨hdisp, _⟩, _⟩ := trigger_eq_next.1 h
  simp [hs.2.2] at hdisp

/-! ## GPA (spec/10_state.md R46, R48, R50) -/

theorem beginPolygon_shaped (w0 : Word) (ctx : PolyCtx) : (beginPolygon w0 ctx).shaped := ⟨rfl, rfl⟩

theorem beginRectangle_shaped (w0 : Word) (ctx : DrawCtx) : (beginRectangle w0 ctx).shaped := rfl

theorem gpaBegin_keeps_inv {w0 : Word} {ctx : DrawCtx} {s t : State} (h : gpaBegin w0 ctx s = .next t) : t.gpa.inv := by
  obtain ⟨_, rfl⟩ | ⟨_, _, rfl⟩ := gpaBegin_eq_next.1 h
  · exact ⟨beginPolygon_shaped w0 ctx.toPoly, Nat.zero_le _, nofun⟩
  · exact ⟨beginRectangle_shaped w0 ctx, Nat.zero_le _⟩

/-- A word goes in only while the buffer is short, and then nothing is decoded yet. -/
theorem Gpa.inv_append {g : Gpa} (hg : g.inv) {e : Nat} (he : expectedOf g.prim = some e) (hlt : g.buf.length < e) (w : Word) :
    Gpa.inv { g with buf := g.buf ++ [w] } := by
  obtain ⟨prim, buf⟩ := g
  have hlen : (buf ++ [w]).length ≤ e := by simpa using hlt
  cases prim with
  | none => simp [expectedOf] at he
  | polygon p =>
    obtain rfl : p.expected = e := by simpa [expectedOf] using he
    obtain ⟨hshaped, _, hdecoded⟩ := hg
    exact ⟨hshaped, hlen, fun a ha => absurd (hdecoded a ha).1 (Nat.ne_of_lt hlt)⟩
  | rectangle r =>
    obtain rfl : r.expected = e := by simpa [expectedOf] using he
    exact ⟨hg.1, hlen⟩

theorem gpaAdd_keeps_inv {w : Word} {s t : State} (hs : s.gpa.inv) (h : gpaAdd w s = .next t) : t.gpa.inv := by
  obtain ⟨e, he, hlt, rfl⟩ := gpaAdd_eq_next.1 h
  exact Gpa.inv_append hs he hlt w

/-- Arrays already decoded are those of the full buffer, so a second `DRAW` finds what the first would compute (R50, R227). -/
theorem gpaDraw_keeps_inv {s t : State} (hs : s.gpa.inv) (h : gpaDraw s = .next t) : t.gpa.inv := by
  obtain ⟨p, hp, hlen, rfl⟩ | ⟨r, _, _, rfl⟩ := gpaDraw_eq_next.1 h
  · unfold Gpa.inv at hs
    simp only [hp] at hs
    obtain ⟨hshaped, hle, hdecoded⟩ := hs
    have harrays : p.decoded.getD (setupArrays p s.gpa.buf) = setupArrays p s.gpa.buf := by
      cases hd : p.decoded with
      | none => rfl
      | some a => exact (hdecoded a hd).2
    exact ⟨hshaped, hle, fun a ha => ⟨hlen, by rw [← Option.some.inj ha, harrays]; rfl⟩⟩
  · exact hs

theorem gpaAddAll_keeps_inv (ws : List Word) {s t : State} (hs : s.gpa.inv) (h : gpaAddAll ws s = .next t) : t.gpa.inv := by
  induction ws generalizing s with
  | nil => exact next_eq_next.1 h ▸ hs
  | cons w rest ih =>
    obtain ⟨r, hr, ht⟩ := andThen_eq_next.1 h
    exact ih (gpaAdd_keeps_inv hs hr) ht

theorem runPrimitive_keeps_inv {ctx : DrawCtx} {w0 : Word} {ws : List Word} {s t : State} (h : runPrimitive ctx w0 ws s = .next t) :
    t.gpa.inv := by
  obtain ⟨s1, hbegin, h1⟩ := andThen_eq_next.1 h
  obtain ⟨s2, hadd, hdraw⟩ := andThen_eq_next.1 h1
  exact gpaDraw_keeps_inv (gpaAddAll_keeps_inv (w0 :: ws) (gpaBegin_keeps_inv hbegin) hadd) hdraw

/-! ## PAD (spec/10_state.md R56, R59, spec/44_pad_protocol.md R282) -/

theorem Pad.inv_cutOff (p : Pad) (log : List LogEntry) : (p.cutOff log).pad.inv := by
  simp [Pad.inv]

theorem Pad.inv_endDialogue (p : Pad) (r : Byte) : (p.endDialogue r).pad.inv := by
  simp [Pad.inv]

/-- Steps 0 and 1: no switch is pending before step 2, and the command is not looked at yet. -/
theorem Pad.inv_advance_header {p : Pad} (hseq : p.seq ≤ 1) (hpend : p.pendingSwitch = .none) (r : Byte) : (p.advance r).pad.inv := by
  simp only [Pad.inv, advance_seq, advance_pendingSwitch, hpend]
  have hnext : p.seq + 1 ≤ 2 := by omega
  exact ⟨by omega, fun _ => trivial, nofun, nofun, fun _ hlate => absurd (hlate.trans hnext) (by decide)⟩

theorem Pad.inv_advance_command {p : Pad} (hseq : p.seq = 0) (hpend : p.pendingSwitch = .none) (d r : Byte) :
    (Pad.advance { p with cmd := d } r).pad.inv := by
  have hseq' : Pad.seq { p with cmd := d } ≤ 1 := by simp [hseq]
  exact inv_advance_header hseq' hpend r

/-- What a pad meets at a data step, once the step has latched what it latches. -/
structure Pad.InData (p : Pad) : Prop where
  seq_ge : 2 ≤ p.seq
  seq_le : p.seq ≤ 7
  toConfig : p.pendingSwitch = .toConfig → p.mode = .normal ∧ p.cmd = 0x43
  toNormal : p.pendingSwitch = .toNormal → p.mode = .config ∧ p.cmd = 0x43
  command : p.mode = .config → p.cmd ∈ configCommands

theorem Pad.InData.inv_advance {p : Pad} (hp : p.InData) (hseq : p.seq ≠ 7) (r : Byte) : (p.advance r).pad.inv := by
  obtain ⟨hge, hle, htoConfig, htoNormal, hcommand⟩ := hp
  refine ⟨?_, fun hearly => ?_, htoConfig, htoNormal, fun hmode _ => hcommand hmode⟩
  · rw [advance_seq]; omega
  · rw [advance_seq] at hearly; omega

theorem Pad.InData.inv_finish {p : Pad} (hp : p.InData) (r : Byte) : (p.finish r).pad.inv := by
  unfold Pad.finish
  split
  case isTrue => exact inv_endDialogue p r
  case isFalse hseq => exact hp.inv_advance hseq r

theorem Pad.inData_normal {p : Pad} (hp : p.inv) (hmode : p.mode = .normal) (hseq : 2 ≤ p.seq) : p.InData := by
  obtain ⟨hle, _, htoConfig, htoNormal, _⟩ := hp
  exact ⟨hseq, hle, htoConfig, htoNormal, fun hconfig => by simp [hmode] at hconfig⟩

theorem Pad.inv_normalStep {p : Pad} (hp : p.inv) (hmode : p.mode = .normal) (d : Byte) : (p.normalStep d).pad.inv := by
  have hdata := Pad.inData_normal hp hmode
  obtain ⟨_, hearly, _, _, _⟩ := hp
  unfold Pad.normalStep
  split
  case h_1 hseq => exact inv_advance_command hseq (hearly (by omega)) d _
  case h_2 hseq => exact inv_advance_header (by omega) (hearly (by omega)) _
  case h_3 hseq =>
    have hmid := hdata (by omega)
    split
    case isTrue => exact inv_cutOff p []
    case isFalse =>
      split
      case isTrue hcfg =>
        obtain ⟨hge, hle, _, _, hcommand⟩ := hmid
        have hswitch : Pad.InData { p with pendingSwitch := .toConfig } := ⟨hge, hle, fun _ => ⟨hmode, hcfg.1⟩, nofun, hcommand⟩
        exact hswitch.inv_advance (by simp [hseq]) _
      case isFalse => exact hmid.inv_advance (by omega) _
  case h_4 hseq =>
    split
    case isTrue => exact (hdata (by omega)).inv_advance (by omega) _
    case isFalse => exact inv_endDialogue p _
  case h_5 hseq | h_6 hseq | h_7 hseq => exact (hdata (by omega)).inv_advance (by omega) _
  case h_8 => exact inv_endDialogue p _

theorem Pad.inv_config43 {p : Pad} (hp : p.InData) (hmode : p.mode = .config) (hcmd : p.cmd = 0x43) (d : Byte) :
    (p.config43 d).pad.inv := by
  unfold Pad.config43
  split
  case isTrue =>
    obtain ⟨hge, hle, _, _, hcommand⟩ := hp
    have hswitch : Pad.InData { p with pendingSwitch := .toNormal } := ⟨hge, hle, nofun, fun _ => ⟨hmode, hcmd⟩, hcommand⟩
    exact hswitch.inv_finish _
  case isFalse => exact hp.inv_finish _

/-- The registers that a data step latches are none the invariant reads. -/
theorem Pad.InData.latch {p : Pad} (hp : p.InData) (led ledPending sel : Byte) (rumble : Vector Byte 6) :
    Pad.InData { p with led := led, ledPending := ledPending, sel := sel, rumble := rumble } := by
  obtain ⟨hge, hle, htoConfig, htoNormal, hcommand⟩ := hp
  exact ⟨hge, hle, htoConfig, htoNormal, hcommand⟩

theorem Pad.inv_config44 {p : Pad} (hp : p.InData) (d : Byte) : (p.config44 d).pad.inv := by
  unfold Pad.config44
  split
  case isTrue => exact (hp.latch p.led d p.sel p.rumble).inv_finish _
  case isFalse =>
    split
    case isTrue => exact (hp.latch p.ledPending p.ledPending p.sel p.rumble).inv_finish _
    case isFalse => exact hp.inv_finish _

theorem Pad.inv_config46 {p : Pad} (hp : p.InData) (d : Byte) : (p.config46 d).pad.inv := by
  unfold Pad.config46
  split
  case isTrue => exact (hp.latch p.led p.ledPending d p.rumble).inv_finish _
  case isFalse => exact hp.inv_finish _

theorem Pad.inv_config4C {p : Pad} (hp : p.InData) (d : Byte) : (p.config4C d).pad.inv := by
  unfold Pad.config4C
  split
  case isTrue => exact (hp.latch p.led p.ledPending d p.rumble).inv_finish _
  case isFalse => split <;> exact hp.inv_finish _

theorem Pad.inv_config4D {p : Pad} (hp : p.InData) (d : Byte) : (p.config4D d).pad.inv :=
  (hp.latch p.led p.ledPending p.sel (p.rumble.setIfInBounds (p.seq - 2) d)).inv_finish _

/-- An answer in a data step of Config mode is an answer to a defined command: this is what lets the dialogue go on past step 2. -/
theorem Pad.inv_configData {p : Pad} (hp : p.inv) (hmode : p.mode = .config) (hseq : 2 ≤ p.seq) {d : Byte} {x : PadStep}
    (h : p.configData d = .answer x) : x.pad.inv := by
  obtain ⟨hle, _, htoConfig, htoNormal, _⟩ := hp
  have hdata (hcommand : p.cmd ∈ configCommands) : p.InData := ⟨hseq, hle, htoConfig, htoNormal, fun _ => hcommand⟩
  unfold Pad.configData at h
  split at h
  case isTrue hcmd => cases h; exact (hdata (by simp [hcmd, configCommands])).inv_finish _
  split at h
  case isTrue hcmd => cases h; exact inv_config43 (hdata (by simp [hcmd, configCommands])) hmode hcmd d
  split at h
  case isTrue hcmd => cases h; exact inv_config44 (hdata (by simp [hcmd, configCommands])) d
  split at h
  case isTrue hcmd => cases h; exact (hdata (by simp [hcmd, configCommands])).inv_finish _
  split at h
  case isTrue hcmd => cases h; exact inv_config46 (hdata (by simp [hcmd, configCommands])) d
  split at h
  case isTrue hcmd => cases h; exact (hdata (by simp [hcmd, configCommands])).inv_finish _
  split at h
  case isTrue hcmd => cases h; exact inv_config4C (hdata (by simp [hcmd, configCommands])) d
  split at h
  case isTrue hcmd => cases h; exact inv_config4D (hdata (by simp [hcmd, configCommands])) d
  split at h <;> cases h

theorem Pad.inv_configStep {p : Pad} (hp : p.inv) (hmode : p.mode = .config) {d : Byte} {x : PadStep} (h : p.configStep d = .answer x) :
    x.pad.inv := by
  have hearly := hp.2.1
  unfold Pad.configStep at h
  split at h
  case h_1 hseq => cases h; exact inv_advance_command hseq (hearly (by omega)) d _
  case h_2 hseq => cases h; exact inv_advance_header (by omega) (hearly (by omega)) _
  case h_3 hne0 hne1 => exact inv_configData hp hmode (Nat.one_lt_iff_ne_zero_and_ne_one.2 ⟨hne0, hne1⟩) h

theorem Pad.inv_exchange {p : Pad} (hp : p.inv) {d : Byte} {x : PadStep} (h : p.exchange d = .answer x) : x.pad.inv := by
  unfold Pad.exchange at h
  split at h
  case isTrue => cases h; exact hp
  case isFalse =>
    split at h
    case isTrue => cases h; exact inv_cutOff p _
    case isFalse =>
      split at h
      case h_1 hmode => cases h; exact inv_normalStep hp hmode d
      case h_2 hmode => exact inv_configStep hp hmode h

theorem Pad.inv_runDialogue (bytes : List Byte) {p : Pad} (hp : p.inv) : (p.runDialogue bytes).pad.inv := by
  induction bytes generalizing p with
  | nil => exact hp
  | cons d ds ih =>
    unfold Pad.runDialogue
    split
    case h_1 => exact hp
    case h_2 => exact hp
    case h_3 x hx =>
      split
      case isTrue => exact ih (inv_exchange hp hx)
      case isFalse => exact inv_exchange hp hx

theorem padExchange_keeps_inv {d : Byte} {s t : State} (hs : s.pad.inv) (h : padExchange d s = .next t) : t.pad.inv := by
  obtain ⟨x, hx, rfl⟩ | ⟨e, _, rfl⟩ := padExchange_eq_next.1 h
  · exact Pad.inv_exchange hs hx
  · exact hs

theorem padDialogue_keeps_inv {bytes : List Byte} {s t : State} (hs : s.pad.inv) (h : padDialogue bytes s = .next t) : t.pad.inv := by
  obtain ⟨_, rfl⟩ := padDialogue_eq_next.1 h
  exact Pad.inv_runDialogue bytes hs

theorem pollWith_keeps_inv {prof : Option Profile} {snap : Snapshot} {s t : State} (hs : s.pad.inv)
    (h : pollWith prof snap s = .next t) : t.pad.inv := by
  obtain ⟨_, rfl⟩ | ⟨_, _, _, hq, rfl⟩ := pollWith_eq_next.1 h
  · exact hs
  · obtain ⟨_, _, _, _, _, _, _, _, rfl⟩ := pollPad_eq_some.1 hq
    exact hs

/-! ## The machine -/

/-- The part of the invariant that speaks of one unit. -/
def unitInv (u : BlockUnit) (s : State) : Prop :=
  match u with
  | .dma => s.dma.inv
  | .gpa => s.gpa.inv
  | .pad => s.pad.inv

theorem Means.keeps_unitInv {i : Instr} {u : BlockUnit} {f : State → Out} {s t : State} (hm : Means i u f) (hs : unitInv u s)
    (h : f s = .next t) : unitInv u t := by
  cases hm
  case answer => obtain rfl := next_eq_next.1 h; exact hs
  case maskTest => obtain ⟨_, h⟩ := withChannel_eq_next.1 h; obtain rfl := next_eq_next.1 h; exact hs
  case baseWrite n v => obtain ⟨_, rfl⟩ := channelWrite_eq_next.1 h; exact Dma.inv_setChan hs (Channel.inv_loadBase (hs.1 n) v) n
  case blockWrite n v => obtain ⟨_, rfl⟩ := channelWrite_eq_next.1 h; exact Dma.inv_setChan hs (Channel.inv_loadBlock (hs.1 n) v) n
  case controlWord | controlHalf => exact ctrlWrite_keeps_inv hs h
  case globalWrite hf => obtain ⟨_, rfl⟩ := busWrite_eq_next.1 h; exact Dma.inv_keepsTransfers hf hs
  case dicrWord | dicrHigh | dicrByte3 => obtain ⟨_, rfl⟩ := busWrite_eq_next.1 h; exact hs
  case setIrq => obtain ⟨_, h⟩ := withChannel_eq_next.1 h; obtain rfl := next_eq_next.1 h; exact hs
  case doneCh => obtain ⟨_, h⟩ := withChannel_eq_next.1 h; obtain rfl := next_eq_next.1 h; exact Dma.inv_done hs _
  case triggerCh => obtain ⟨_, h⟩ := withChannel_eq_next.1 h; exact absurd h (trigger_ne_next_of_inv hs)
  case beginPrim => exact gpaBegin_keeps_inv h
  case addWord => exact gpaAdd_keeps_inv hs h
  case ready => obtain ⟨_, _, rfl⟩ := gpaReady_eq_next.1 h; exact hs
  case draw => exact gpaDraw_keeps_inv hs h
  case primitive => exact runPrimitive_keeps_inv h
  case exchange => exact padExchange_keeps_inv hs h
  case poll => exact pollWith_keeps_inv hs h
  case connect => obtain rfl := next_eq_next.1 h; exact hs
  case dialogue => exact padDialogue_keeps_inv hs h

theorem exec_keeps_inv {i : Instr} {s t : State} (hs : s.inv) (h : exec i s = .next t) : t.inv := by
  obtain ⟨hdma, hgpa, hpad⟩ := State.inv_iff.1 hs
  have hframe := (exec_actsOn i).frame h
  have hunit := fun hu => (exec_means i).keeps_unitInv hu h
  rw [State.inv_iff]
  generalize unitOf i = u at hframe hunit
  cases u
  case dma =>
    obtain ⟨hgpa', _, hpad'⟩ := hframe
    exact ⟨hunit hdma, hgpa' ▸ hgpa, hpad' ▸ hpad⟩
  case gpa =>
    obtain ⟨hdma', hpad'⟩ := hframe
    exact ⟨hdma' ▸ hdma, hunit hgpa, hpad' ▸ hpad⟩
  case pad =>
    obtain ⟨hdma', hgpa', _⟩ := hframe
    exact ⟨hdma' ▸ hdma, hgpa' ▸ hgpa, hunit hpad⟩

/-- Settles O57: a completed operation keeps its own unit's part of the invariant and leaves the other two parts alone. -/
theorem stepKeepsInvariant : Obligations.StepKeepsInvariant := by
  unfold Obligations.StepKeepsInvariant
  intro s t hs h
  obtain ⟨_, rfl⟩ | ⟨r, rest, _, hr⟩ | ⟨agent, rest, _, rfl⟩ := step_eq_next.1 h
  · exact hs
  · have htaken : State.inv { s with pending := rest } := hs
    obtain ⟨i, _, hi⟩ | ⟨addr, _, rfl⟩ := performRequest_eq_next.1 hr
    · exact exec_keeps_inv htaken hi
    · exact hs
  · exact hs

end Sys2Proof.Machine
end

section
/-! The address map of the DMA register window (spec/20_memory.md R71 to R82): the address of a register, the register an address
selects, and what an access at any other address does. -/

namespace Sys2Proof

/-! ## The register an address selects -/

/-- The address of a register (R71, R79). -/
def BusReg.addr (g : BusReg) : Word :=
  match g with
  | .base n => channelAddr n 0x0#32
  | .block n => channelAddr n 0x4#32
  | .ctrl n => channelAddr n 0x8#32
  | .dpcr => 0x1F8010F0#32
  | .dicr => 0x1F8010F4#32

theorem decodeWordAddr_addr (g : BusReg) : decodeWordAddr g.addr = some g := by
  cases g with
  | base n => exact decodeWordAddr_base n
  | block n => exact decodeWordAddr_block n
  | ctrl n => exact decodeWordAddr_ctrl n
  | dpcr => rfl
  | dicr => rfl

/-- An address of the window is made of the window's base, its channel field and its low four bits (R101). -/
theorem eq_channelAddr_of_inWindow {addr : Word} {n : Chan} (hw : inWindow addr = true) (hn : addrChannel addr = some n) :
    addr = channelAddr n (addr &&& 0xF#32) := by
  have htop : addr.toNat / 128 = 0x3F0021 := by
    have := congrArg BitVec.toNat (beq_iff_eq.1 hw)
    simp only [BitVec.extractLsb'_toNat, Nat.shiftRight_eq_div_pow, BitVec.toNat_ofNat] at this
    omega
  have hfield : addr.toNat / 16 % 8 = n.val := by
    have hval : ((addr &&& 0x70#32) >>> 4).toNat = addr.toNat / 16 % 8 := by
      simp only [BitVec.toNat_ushiftRight, BitVec.toNat_and, BitVec.toNat_ofNat, Nat.shiftRight_and_distrib]
      exact (Nat.and_two_pow_sub_one_eq_mod _ 3).trans (by rw [Nat.shiftRight_eq_div_pow])
    simp only [addrChannel, hval] at hn
    split at hn
    · exact congrArg Fin.val (Option.some.inj hn)
    · cases hn
  have hlow : (addr &&& 0xF#32).toNat = addr.toNat % 16 := Nat.and_two_pow_sub_one_eq_mod _ 4
  apply BitVec.eq_of_toNat_eq
  simp only [channelAddr, BitVec.toNat_add, BitVec.toNat_ofNat, hlow]
  omega

/-- The low four bits are the offset of a word and a byte of it (R77). -/
theorem group_add_byte (addr : Word) : (addr &&& 0xC#32) + (addr.extractLsb' 0 2).setWidth 32 = addr &&& 0xF#32 := by
  have hbyte : (addr.extractLsb' 0 2).setWidth 32 = addr &&& 0x3#32 := by
    apply BitVec.eq_of_toNat_eq
    have hmask : (addr &&& 0x3#32).toNat = addr.toNat % 4 := Nat.and_two_pow_sub_one_eq_mod _ 2
    simp only [hmask, BitVec.toNat_setWidth, BitVec.extractLsb'_toNat, Nat.shiftRight_zero]
    omega
  have hdisjoint : addr &&& 0xC#32 &&& (addr &&& 0x3#32) = 0#32 :=
    calc addr &&& 0xC#32 &&& (addr &&& 0x3#32)
      _ = addr &&& addr &&& (0xC#32 &&& 0x3#32) := by ac_rfl
      _ = 0#32 := BitVec.and_zero
  rw [hbyte, BitVec.add_eq_or_of_and_eq_zero _ _ hdisjoint, ← BitVec.and_or_distrib_left]
  rfl

theorem decodeWordAddr_eq_some {addr : Word} {g : BusReg} : decodeWordAddr addr = some g ↔ addr = g.addr := by
  refine ⟨fun h => ?_, fun h => h ▸ decodeWordAddr_addr g⟩
  unfold decodeWordAddr at h
  split at h
  · cases h; assumption
  split at h
  · cases h; assumption
  split at h
  case isFalse => cases h
  case isTrue hw =>
    split at h
    · cases h
    case h_2 n hn =>
      have haddr := eq_channelAddr_of_inWindow hw hn
      generalize addr &&& 0xF#32 = off at h haddr
      dsimp only at h
      split_ifs at h <;> cases h <;> subst off <;> exact haddr

theorem eq_of_decodeByteAddr {addr : Word} {g : BusReg} {k : BitVec 2} (h : decodeByteAddr addr = some (g, k)) :
    addr = g.addr + k.setWidth 32 := by
  unfold decodeByteAddr at h
  split at h
  case isFalse => cases h
  case isTrue hw =>
    split at h
    · cases h
    case h_2 n hn =>
      have haddr : addr = channelByteAddr n (addr &&& 0xC#32) (addr.extractLsb' 0 2) := by
        rw [channelByteAddr, channelAddr, BitVec.add_assoc, group_add_byte]
        exact eq_channelAddr_of_inWindow hw hn
      generalize addr &&& 0xC#32 = group at h haddr
      dsimp only at h
      split_ifs at h <;> cases h <;> subst group <;> exact haddr

end Sys2Proof

namespace Sys2Proof.Machine

/-! ## The operations on the bus -/

/-- The part of the decoder that speaks of the bus gives every access of the table back. -/
theorem decode_encode_of_busAccess {i : Instr} (h : (busAccess (encode i)).isSome = true) : decode (encode i) = .ok i := by
  cases i
  case rd32Base | rd32Block | rd32Ctrl | wr32Base | wr32Block | wr32Ctrl =>
    simp only [encode, decode, decodeRead32, decodeWrite32, decodeWordAddr_base, decodeWordAddr_block, decodeWordAddr_ctrl]
  case rd16Base | rd16Block | rd16Ctrl | wr16Base | wr16Block | wr16Ctrl =>
    simp [encode, decode, decodeRead16, decodeWrite16, channelAddr_ne, decodeWordAddr_base, decodeWordAddr_block, decodeWordAddr_ctrl]
  case rd8Base | rd8Block | rd8Ctrl | wr8Base | wr8Block | wr8Ctrl =>
    simp [encode, decode, decodeRead8, decodeWrite8, channelByteAddr_ne, decodeByteAddr_base, decodeByteAddr_block, decodeByteAddr_ctrl]
  case rd32Dpcr | rd16Dpcr | rd32Dicr | rd16DicrL | rd16DicrH | rd8Dicr0 | rd8Dicr1 | rd8Dicr2 | rd8Dicr3 | wr32Dpcr | wr16Dpcr |
      wr32Dicr | wr16DicrL | wr16DicrH | wr8Dicr0 | wr8Dicr1 | wr8Dicr2 | wr8Dicr3 => rfl
  all_goals cases h

/-! ## The accepted addresses -/

theorem regAddr_eq_channelAddr (n : Chan) (off : Word) : regAddr n off = channelAddr n off := by
  rw [regAddr, channelAddr, BitVec.ofNat_mul]

theorem mem_channelAddrs {addr : Word} :
    addr ∈ channelAddrs ↔ ∃ n, addr = channelAddr n 0x0#32 ∨ addr = channelAddr n 0x4#32 ∨ addr = channelAddr n 0x8#32 := by
  simp [channelAddrs, regAddr_eq_channelAddr]

theorem mem_acceptedAddrs_word {addr : Word} : addr ∈ acceptedAddrs 32 ↔ ∃ g : BusReg, addr = g.addr := by
  simp only [acceptedAddrs, if_true, List.mem_append, mem_channelAddrs, List.mem_cons, List.not_mem_nil, or_false]
  constructor
  · rintro (⟨n, h | h | h⟩ | h | h)
    · exact ⟨.base n, h⟩
    · exact ⟨.block n, h⟩
    · exact ⟨.ctrl n, h⟩
    · exact ⟨.dpcr, h⟩
    · exact ⟨.dicr, h⟩
  · rintro ⟨n | n | n | _ | _, h⟩
    · exact .inl ⟨n, .inl h⟩
    · exact .inl ⟨n, .inr (.inl h)⟩
    · exact .inl ⟨n, .inr (.inr h)⟩
    · exact .inr (.inl h)
    · exact .inr (.inr h)

theorem mem_acceptedAddrs_half {addr : Word} : addr ∈ acceptedAddrs 16 ↔ addr = 0x1F8010F6#32 ∨ addr ∈ acceptedAddrs 32 := by
  simp [acceptedAddrs, or_assoc, or_comm]

theorem mem_acceptedAddrs_byte {addr : Word} :
    addr ∈ acceptedAddrs 8 ↔ addr = 0x1F8010F4#32 ∨ addr = 0x1F8010F5#32 ∨ addr = 0x1F8010F6#32 ∨ addr = 0x1F8010F7#32 := by
  simp [acceptedAddrs]

theorem decodeWordAddr_eq_none {addr : Word} (h : addr ∉ acceptedAddrs 32) : decodeWordAddr addr = none :=
  Option.eq_none_iff_forall_ne_some.2 fun g hg => h (mem_acceptedAddrs_word.2 ⟨g, decodeWordAddr_eq_some.1 hg⟩)

/-- An access of the map has an operation of the table. -/
theorem exists_encode_of_accepted {r : Request} {width : Nat} {addr : Word} (hr : busAccess r = some (width, addr))
    (h : addr ∈ acceptedAddrs width) : ∃ i, encode i = r := by
  cases r <;> cases hr
  case busRead32 =>
    obtain ⟨n | n | n | _ | _, rfl⟩ := mem_acceptedAddrs_word.1 h
    exacts [⟨.rd32Base n, rfl⟩, ⟨.rd32Block n, rfl⟩, ⟨.rd32Ctrl n, rfl⟩, ⟨.rd32Dpcr, rfl⟩, ⟨.rd32Dicr, rfl⟩]
  case busWrite32 v =>
    obtain ⟨n | n | n | _ | _, rfl⟩ := mem_acceptedAddrs_word.1 h
    exacts [⟨.wr32Base n v, rfl⟩, ⟨.wr32Block n v, rfl⟩, ⟨.wr32Ctrl n v, rfl⟩, ⟨.wr32Dpcr v, rfl⟩, ⟨.wr32Dicr v, rfl⟩]
  case busRead16 =>
    obtain rfl | h := mem_acceptedAddrs_half.1 h
    · exact ⟨.rd16DicrH, rfl⟩
    obtain ⟨n | n | n | _ | _, rfl⟩ := mem_acceptedAddrs_word.1 h
    exacts [⟨.rd16Base n, rfl⟩, ⟨.rd16Block n, rfl⟩, ⟨.rd16Ctrl n, rfl⟩, ⟨.rd16Dpcr, rfl⟩, ⟨.rd16DicrL, rfl⟩]
  case busWrite16 v =>
    obtain rfl | h := mem_acceptedAddrs_half.1 h
    · exact ⟨.wr16DicrH v, rfl⟩
    obtain ⟨n | n | n | _ | _, rfl⟩ := mem_acceptedAddrs_word.1 h
    exacts [⟨.wr16Base n v, rfl⟩, ⟨.wr16Block n v, rfl⟩, ⟨.wr16Ctrl n v, rfl⟩, ⟨.wr16Dpcr v, rfl⟩, ⟨.wr16DicrL v, rfl⟩]
  case busRead8 =>
    obtain rfl | rfl | rfl | rfl := mem_acceptedAddrs_byte.1 h
    exacts [⟨.rd8Dicr0, rfl⟩, ⟨.rd8Dicr1, rfl⟩, ⟨.rd8Dicr2, rfl⟩, ⟨.rd8Dicr3, rfl⟩]
  case busWrite8 v =>
    obtain rfl | rfl | rfl | rfl := mem_acceptedAddrs_byte.1 h
    exacts [⟨.wr8Dicr0 v, rfl⟩, ⟨.wr8Dicr1 v, rfl⟩, ⟨.wr8Dicr2 v, rfl⟩, ⟨.wr8Dicr3 v, rfl⟩]

/-! ## The other addresses -/

theorem performRequest_of_unhandledAddress {r : Request} {addr : Word} (h : decode r = .error (.unhandledAddress addr)) (s : State) :
    performRequest r s = .next (s.raise (.unhandledAddress addr)) := by
  simp only [performRequest, h, rejected]

theorem performRequest_of_not_accepted {r : Request} {width : Nat} {addr : Word} (hr : busAccess r = some (width, addr))
    (h : addr ∉ acceptedAddrs width) (s : State) : performRequest r s = .next (s.raise (.unhandledAddress addr)) := by
  cases r <;> cases hr
  case busRead32 | busWrite32 =>
    exact performRequest_of_unhandledAddress (by simp only [decode, decodeRead32, decodeWrite32, decodeWordAddr_eq_none h]) s
  case busRead16 | busWrite16 =>
    obtain ⟨hhigh, hword⟩ := not_or.1 (mt mem_acceptedAddrs_half.2 h)
    have hlow : addr ≠ 0x1F8010F4#32 := fun heq => hword (mem_acceptedAddrs_word.2 ⟨.dicr, heq⟩)
    refine performRequest_of_unhandledAddress ?_ s
    simp only [decode, decodeRead16, decodeWrite16, hlow, hhigh, if_false, decodeWordAddr_eq_none hword]
  -- A byte of a channel register decodes to an operation that raises for its own address (R145, R150, R157).
  case busRead8 | busWrite8 =>
    simp only [mem_acceptedAddrs_byte, not_or] at h
    obtain ⟨h0, h1, h2, h3⟩ := h
    simp only [performRequest, decode, decodeRead8, decodeWrite8, h0, h1, h2, h3, if_false]
    cases hbyte : decodeByteAddr addr with
    | none => rfl
    | some selected =>
      obtain ⟨g, k⟩ := selected
      rw [eq_of_decodeByteAddr hbyte]
      cases g <;> rfl

/-- Settles O11: a register selected at its width has an operation, which the decoder gives back; every other address raises. -/
theorem addressMapIsComplete : Obligations.AddressMapIsComplete := by
  unfold Obligations.AddressMapIsComplete
  intro r width addr rest s hr
  refine ⟨fun haccepted => ?_, fun hother hpending => ?_⟩
  · obtain ⟨i, rfl⟩ := exists_encode_of_accepted hr haccepted
    exact ⟨i, decode_encode_of_busAccess (hr ▸ rfl), rfl⟩
  · exact (step_of_pending_operation hpending).trans (performRequest_of_not_accepted hr hother _)

/-! ## Reads (R83) -/

theorem exec_irqEn (n : Nat) (s : State) :
    exec (.irqEn n) s = withChannel n (fun ch => .next (s.reply (.bit (irqEnabled s.dma ch)))) := rfl

/-- A read of DMA is performed on DMA and leaves nothing but its answer (R83). -/
theorem dmaRead_replies {i : Instr} (h : isDmaRead i = true) :
    unitOf i = .dma ∧ ∀ {s t : State}, exec i s = .next t → t = s.reply t.result := by
  cases i
  case irqEn n =>
    refine ⟨rfl, fun hx => ?_⟩
    rw [exec_irqEn] at hx
    obtain ⟨_, hx⟩ := withChannel_eq_next.1 hx
    obtain rfl := next_eq_next.1 hx
    rfl
  case rd32Base | rd16Base | rd32Block | rd16Block | rd32Ctrl | rd16Ctrl | rd32Dpcr | rd16Dpcr | rd32Dicr | rd16DicrL | rd16DicrH |
      rd8Dicr0 | rd8Dicr1 | rd8Dicr2 | rd8Dicr3 | hasIrq =>
    refine ⟨rfl, fun hx => ?_⟩
    obtain rfl := next_eq_next.1 hx
    rfl
  all_goals cases h

/-- Settles O23: a read replies with a function of DMA, which the reply leaves as it was. -/
theorem dmaReadsHaveNoSideEffect : Obligations.DmaReadsHaveNoSideEffect := by
  unfold Obligations.DmaReadsHaveNoSideEffect
  intro i s t hread h
  obtain ⟨hunit, hreply⟩ := dmaRead_replies hread
  have ht := hreply h
  have hdma : t.dma = s.dma := (congrArg State.dma ht).trans (State.reply_dma _ _)
  obtain ⟨t', h', _, hresult⟩ := (hunit ▸ exec_actsOn i).reads h hdma
  have ht' : t' = t := by
    rw [hreply h', hresult, ht]
    rfl
  exact ⟨ht, ht' ▸ h'⟩

end Sys2Proof.Machine
end

section
/-! The decoder read against the encoder (spec/30_encoding.md): the fields of a command word and the first byte of a dialogue give every
operation of the table back. -/

namespace Sys2Proof.Machine

/-! ## Primitive streams (R111 to R113, R134) -/

/-- A command byte of the polygon class (R111) hands its stream to the polygon table. -/
theorem decode_polygonRequest {op : Byte} (hop : op.extractLsb' 5 3 = 1#3) (ctx : PolyCtx) (c0 : BitVec 24) (ws : List Word) :
    decode (polygonRequest op ctx c0 ws) = decodePolygon ctx (cmdWord op c0) ws := by
  have hclass : isPolygonWord (cmdWord op c0) = true := by rw [isPolygonWord_cmdWord, hop]; rfl
  simp only [polygonRequest, decode, decodePrimitive, hclass, if_true]
  rfl

/-- A command byte of the rectangle class (R111) hands its stream to the rectangle table. -/
theorem decode_rectangleRequest {op : Byte} (hop : op.extractLsb' 5 3 = 3#3) (ctx : DrawCtx) (c0 : BitVec 24) (ws : List Word) :
    decode (rectangleRequest op ctx c0 ws) = decodeRectangle ctx (cmdWord op c0) ws := by
  have hpolygon : isPolygonWord (cmdWord op c0) = false := by rw [isPolygonWord_cmdWord, hop]; rfl
  have hclass : isRectangleWord (cmdWord op c0) = true := by rw [isRectangleWord_cmdWord, hop]; rfl
  simp [rectangleRequest, decode, decodePrimitive, hpolygon, hclass]

/-- The flags of a command word are those of its command byte, whatever its colour (R112, R113). -/
theorem cmdWord_flag (op : Byte) (c0 : BitVec 24) {i : Nat} (hi : 24 ≤ i) : (cmdWord op c0).getLsbD i = op.getLsbD (i - 24) := by
  rw [cmdWord_bit, if_neg (Nat.not_lt.2 hi)]

/-! ## Dialogues (R139) -/

/-- Any other first byte than that of `PAD.N.CFG` starts a `PAD.N.POLL`. -/
theorem decodeNormalDialogue_poll {b0 : Byte} (h : b0 ≠ 0x43#8) (data : List Byte) :
    decodeNormalDialogue (b0 :: data) = .ok (.padNPoll b0 data) :=
  if_neg h

/-! ## The table -/

/-- Settles O54: by the address map on the bus, by class and flags of the command word on a stream, by the first byte in a dialogue. -/
theorem decodeOfEncodeIsIdentity : Obligations.DecodeOfEncodeIsIdentity := by
  unfold Obligations.DecodeOfEncodeIsIdentity
  intro i hwf
  by_cases hbus : (busAccess (encode i)).isSome = true
  · exact decode_encode_of_busAccess hbus
  cases i
  -- Calls carry their operands as they are (R137, R138).
  case setIrq | hasIrq | irqEn | doneCh | triggerCh | beginPrim | addWord | ready | draw | xchg | poll | connect => rfl
  case polyF3 | polyF3R | polyF3S | polyF3SR | polyF3T | polyF3TR | polyF3TS | polyF3TSR | polyF4 | polyF4R | polyF4S | polyF4SR |
      polyF4T | polyF4TR | polyF4TS | polyF4TSR | polyG3 | polyG3R | polyG3S | polyG3SR | polyG3T | polyG3TR | polyG3TS | polyG3TSR |
      polyG4 | polyG4R | polyG4S | polyG4SR | polyG4T | polyG4TR | polyG4TS | polyG4TSR =>
    rw [encode, decode_polygonRequest (by rfl), decodePolygon, cmdWord_color]
    simp only [cmdWord_flag, Nat.reduceLeDiff, Nat.reduceSub]
    rfl
  case rectV | rectVR | rectVS | rectVSR | rectVT | rectVTR | rectVTS | rectVTSR | rect1 | rect1R | rect1S | rect1SR | rect1T | rect1TR |
      rect1TS | rect1TSR | rect8 | rect8R | rect8S | rect8SR | rect8T | rect8TR | rect8TS | rect8TSR | rect16 | rect16R | rect16S |
      rect16SR | rect16T | rect16TR | rect16TS | rect16TSR =>
    rw [encode, decode_rectangleRequest (by rfl), decodeRectangle, cmdWord_color]
    simp only [cmdWord_flag, Nat.reduceLeDiff, Nat.reduceSub]
    rfl
  case padNPoll b0 data =>
    obtain ⟨hb0, _⟩ := Bool.and_eq_true_iff.1 hwf
    exact decodeNormalDialogue_poll (bne_iff_ne.1 hb0) data
  case padNCfg | padC42 | padC43 | padC44 | padC45 | padC46 | padC47 | padC4C | padC4D => rfl
  -- What is left are the accesses on the bus.
  all_goals exact absurd rfl hbus

/-- Settles O60: each of the six words is the encoding of its operation. -/
theorem tableWordsDecode : Obligations.TableWordsDecode := by
  unfold Obligations.TableWordsDecode
  have hback := decodeOfEncodeIsIdentity
  unfold Obligations.DecodeOfEncodeIsIdentity at hback
  exact ⟨hback (.wr32Ctrl 2 0x01000401) rfl, hback .rd16DicrH rfl, hback (.rd8Base 6 3) rfl,
    hback (.polyF3 { ditherEnable := false, globalBlend := 0 } 0x0000FF 0x00100010 0x00100050 0x00500010) rfl,
    hback (.rect16S zeroCtx 0x204060 0x07F807F8) rfl, hback (.padC44 0 1 2 0 0 0 0) rfl⟩

end Sys2Proof.Machine
end

section
/-! The one illegal value of a register field (spec/30_encoding.md R129): which writes raise InvalidConfiguration, and that no other
operation of the table does. -/

namespace Sys2Proof.Machine

/-! ## Operations that complete with no value -/

/-- Whenever the operation completes, it returns no value and no error. -/
def Completes (f : State → Out) : Prop := ∀ s t : State, f s = .next t → t.result = .completed

theorem setDma_completes (f : Dma → Dma) : Completes (fun s => .next (s.setDma (f s.dma))) := by
  intro s t h
  obtain rfl := next_eq_next.1 h
  rfl

theorem busWrite_completes (f : Dma → Dma) : Completes (busWrite f) := by
  intro s t h
  obtain ⟨_, rfl⟩ := busWrite_eq_next.1 h
  rfl

theorem channelWrite_completes (n : Chan) (f : Channel → Channel) : Completes (channelWrite n f) :=
  busWrite_completes fun d => d.setChan n (f (d.chan n))

theorem trigger_completes (n : Chan) : Completes (trigger n) := by
  intro s t h
  obtain ⟨_, _, _, rfl⟩ := trigger_eq_next.1 h
  rfl

theorem Completes.withChannel {f : Chan → State → Out} (hf : ∀ ch, Completes (f ch)) (n : Nat) :
    Completes (fun s => Machine.withChannel n (fun ch => f ch s)) := by
  intro s t h
  obtain ⟨hn, ht⟩ := withChannel_eq_next.1 h
  exact hf ⟨n, hn⟩ s t ht

theorem gpaBegin_completes (w0 : Word) (ctx : DrawCtx) : Completes (gpaBegin w0 ctx) := by
  intro s t h
  obtain ⟨_, rfl⟩ | ⟨_, _, rfl⟩ := gpaBegin_eq_next.1 h <;> rfl

theorem gpaAdd_completes (w : Word) : Completes (gpaAdd w) := by
  intro s t h
  obtain ⟨_, _, _, rfl⟩ := gpaAdd_eq_next.1 h
  rfl

theorem gpaDraw_completes : Completes gpaDraw := by
  intro s t h
  obtain ⟨_, _, _, rfl⟩ | ⟨_, _, _, rfl⟩ := gpaDraw_eq_next.1 h <;> rfl

/-- A stream ends with its `DRAW`. -/
theorem runPrimitive_completes (ctx : DrawCtx) (w0 : Word) (ws : List Word) : Completes (runPrimitive ctx w0 ws) := by
  intro s t h
  obtain ⟨_, _, hrest⟩ := andThen_eq_next.1 h
  obtain ⟨r, _, hdraw⟩ := andThen_eq_next.1 hrest
  exact gpaDraw_completes r t hdraw

theorem pollWith_completes (prof : Option Profile) (snap : Snapshot) : Completes (pollWith prof snap) := by
  intro s t h
  obtain ⟨_, rfl⟩ | ⟨_, _, _, _, rfl⟩ := pollWith_eq_next.1 h <;> rfl

/-! ## The control writes (spec/40_dma_channel_registers.md R152, R154) -/

theorem SyncMode.ofBits_eq_none {b : BitVec 2} : SyncMode.ofBits b = none ↔ b = 3#2 := by
  revert b; decide

theorem widen_eq_append (h : Half) : widen h = 0#16 ++ h :=
  BitVec.setWidth_eq_append (by decide)

theorem widen_sync (h : Half) : (widen h).extractLsb' 9 2 = h.extractLsb' 9 2 := by
  apply BitVec.eq_of_getLsbD_eq
  intro i hi
  have hin : 9 + i < 32 := by omega
  simp [widen, hin]

/-- The error comes before the test for an invocation in progress (spec/60_exceptions.md R344; Log 7). -/
theorem ctrlWrite_of_reservedSync {v : Word} (h : v.extractLsb' 9 2 = 3#2) (n : Chan) (s : State) :
    ctrlWrite n v s = .next (s.raise (.invalidConfiguration n v)) :=
  ctrlWrite_eq_next.2 (.inl ⟨SyncMode.ofBits_eq_none.2 h, rfl⟩)

/-- A control write names its own channel and value in the error, and raises for the reserved value alone. -/
theorem ctrlWrite_invalidConfiguration {m n : Chan} {w v : Word} {s t : State} (h : ctrlWrite m w s = .next t)
    (hr : t.result = .error (.invalidConfiguration n v)) : (m = n ∧ w = v) ∧ v.extractLsb' 9 2 = 3#2 := by
  obtain ⟨hsync, rfl⟩ | ⟨_, _, _, ⟨_, rfl⟩ | ⟨_, ht⟩⟩ := ctrlWrite_eq_next.1 h
  · cases hr
    exact ⟨⟨rfl, rfl⟩, SyncMode.ofBits_eq_none.1 hsync⟩
  · cases hr
  · rw [trigger_completes m _ t ht] at hr
    cases hr

/-! ## The other operations -/

/-- Whenever the operation completes, it does so with another result than InvalidConfiguration. -/
def NeverInvalidConfiguration (f : State → Out) : Prop :=
  ∀ (s t : State) (n : Chan) (v : Word), f s = .next t → t.result ≠ .error (.invalidConfiguration n v)

theorem Completes.neverInvalidConfiguration {f : State → Out} (hf : Completes f) : NeverInvalidConfiguration f := by
  intro s t n v h
  rw [hf s t h]
  nofun

theorem Pad.configData_eq_raise {p : Pad} {d : Byte} {e : ErrorKind} (h : p.configData d = .raise e) :
    e = .unrecognizedConfigCommand p.cmd := by
  unfold Pad.configData at h
  split_ifs at h
  cases h
  rfl

/-- The one error an exchange ends with (spec/44_pad_protocol.md R282). -/
theorem Pad.exchange_eq_raise {p : Pad} {d : Byte} {e : ErrorKind} (h : p.exchange d = .raise e) :
    e = .unrecognizedConfigCommand p.cmd := by
  unfold Pad.exchange at h
  split_ifs at h
  split at h
  case h_1 => cases h
  case h_2 =>
    unfold Pad.configStep at h
    split at h
    case h_1 | h_2 => cases h
    case h_3 => exact configData_eq_raise h

theorem padExchange_neverInvalidConfiguration (d : Byte) : NeverInvalidConfiguration (padExchange d) := by
  intro s t n v h
  obtain ⟨_, _, rfl⟩ | ⟨e, he, rfl⟩ := padExchange_eq_next.1 h
  · nofun
  · rw [Pad.exchange_eq_raise he]
    nofun

/-- The error that ends a dialogue stands inside the dialogue's result. -/
theorem padDialogue_neverInvalidConfiguration (bytes : List Byte) : NeverInvalidConfiguration (padDialogue bytes) := by
  intro s t n v h
  obtain ⟨_, rfl⟩ := padDialogue_eq_next.1 h
  nofun

theorem exec_neverInvalidConfiguration {i : Instr} (hword : ∀ n v, i ≠ .wr32Ctrl n v) (hhalf : ∀ n h, i ≠ .wr16Ctrl n h) :
    NeverInvalidConfiguration (exec i) := by
  cases i
  case wr32Ctrl n v => exact absurd rfl (hword n v)
  case wr16Ctrl n h => exact absurd rfl (hhalf n h)
  -- An answer is a value, or at a byte of a channel register the other error of the bus.
  case rd32Base | rd16Base | rd32Block | rd16Block | rd32Ctrl | rd16Ctrl | rd8Base | wr8Base | rd8Block | wr8Block | rd8Ctrl | wr8Ctrl |
      rd32Dpcr | rd16Dpcr | rd32Dicr | rd16DicrL | rd16DicrH | rd8Dicr0 | rd8Dicr1 | rd8Dicr2 | rd8Dicr3 | hasIrq | connect =>
    intro s t n v h
    obtain rfl := next_eq_next.1 h
    nofun
  case irqEn =>
    intro s t n v h
    rw [exec_irqEn] at h
    obtain ⟨_, h⟩ := withChannel_eq_next.1 h
    obtain rfl := next_eq_next.1 h
    nofun
  case ready =>
    intro s t n v h
    obtain ⟨_, _, rfl⟩ := gpaReady_eq_next.1 h
    nofun
  case wr32Base | wr16Base | wr32Block | wr16Block => exact (channelWrite_completes _ _).neverInvalidConfiguration
  case wr32Dpcr v => exact (busWrite_completes fun d => { d with dpcr := v }).neverInvalidConfiguration
  case wr16Dpcr h => exact (busWrite_completes fun d => { d with dpcr := widen h }).neverInvalidConfiguration
  case wr32Dicr | wr16DicrL | wr16DicrH | wr8Dicr0 | wr8Dicr1 | wr8Dicr2 | wr8Dicr3 =>
    exact (busWrite_completes _).neverInvalidConfiguration
  case setIrq n => exact (Completes.withChannel (fun ch => setDma_completes fun d => d.setIrq ch) n).neverInvalidConfiguration
  case doneCh n => exact (Completes.withChannel (fun ch => setDma_completes fun d => d.done ch) n).neverInvalidConfiguration
  case triggerCh n => exact (Completes.withChannel trigger_completes n).neverInvalidConfiguration
  case beginPrim w0 ctx => exact (gpaBegin_completes w0 ctx).neverInvalidConfiguration
  case addWord w => exact (gpaAdd_completes w).neverInvalidConfiguration
  case draw => exact gpaDraw_completes.neverInvalidConfiguration
  case poll snap => exact (pollWith_completes _ snap).neverInvalidConfiguration
  case xchg d => exact padExchange_neverInvalidConfiguration d
  case padNPoll | padNCfg | padC42 | padC43 | padC44 | padC45 | padC46 | padC47 | padC4C | padC4D =>
    exact padDialogue_neverInvalidConfiguration _
  -- What is left are the 64 primitives of the table, each a whole command stream.
  all_goals exact (runPrimitive_completes _ _ _).neverInvalidConfiguration

/-- Settles O6: the sync check of a control write is the one place of the table that raises InvalidConfiguration. -/
theorem reservedSyncRaises : Obligations.ReservedSyncRaises := by
  unfold Obligations.ReservedSyncRaises
  intro n v h s
  refine ⟨fun hv => ctrlWrite_of_reservedSync hv n s, fun hh => ?half, fun i t hexec hresult => ?onlySource⟩
  case half =>
    rw [← widen_eq_append]
    exact ctrlWrite_of_reservedSync ((widen_sync h).trans hh) n s
  case onlySource =>
    by_cases hword : ∃ m w, i = .wr32Ctrl m w
    · obtain ⟨m, w, rfl⟩ := hword
      obtain ⟨⟨rfl, rfl⟩, hsync⟩ := ctrlWrite_invalidConfiguration hexec hresult
      exact ⟨hsync, .inl rfl⟩
    by_cases hhalf : ∃ m k, i = .wr16Ctrl m k
    · obtain ⟨m, k, rfl⟩ := hhalf
      obtain ⟨⟨rfl, rfl⟩, hsync⟩ := ctrlWrite_invalidConfiguration hexec hresult
      exact ⟨hsync, .inr ⟨k, rfl, widen_eq_append k⟩⟩
    have hnever : NeverInvalidConfiguration (exec i) :=
      exec_neverInvalidConfiguration (fun m w hi => hword ⟨m, w, hi⟩) (fun m k hi => hhalf ⟨m, k, hi⟩)
    exact absurd hresult (hnever s t n v hexec)

end Sys2Proof.Machine
end

section
/-! The channel registers (spec/40_dma_channel_registers.md): what each read returns, what each write leaves of its channel and of
the rest, and the dispatch of an activating channel-control write. -/

namespace Sys2Proof.Machine

/-! ## The accesses at the addresses of a channel -/

/-- The address of a byte of a register, in the spelling of the statements (R77). -/
theorem regAddr_add_byte (n : Chan) (off : Word) (k : BitVec 2) : regAddr n off + k.setWidth 32 = channelByteAddr n off k := by
  rw [regAddr_eq_channelAddr, channelByteAddr]

/-- A request that the encoding table gives an operation of the bus decodes to that operation. -/
theorem decode_of_encode_eq {i : Instr} {r : Request} (hr : encode i = r) (hbus : (busAccess r).isSome = true) :
    decode r = .ok i := by
  subst hr
  exact decode_encode_of_busAccess hbus

theorem decode_half_of_not_accepted {addr : Word} (h : addr ∉ acceptedAddrs 16) :
    decode (.busRead16 addr) = .error (.unhandledAddress addr) ∧
      ∀ v, decode (.busWrite16 addr v) = .error (.unhandledAddress addr) := by
  obtain ⟨hhigh, hword⟩ := not_or.1 (mt mem_acceptedAddrs_half.2 h)
  have hlow : addr ≠ 0x1F8010F4#32 := fun heq => hword (mem_acceptedAddrs_word.2 ⟨.dicr, heq⟩)
  simp only [decode, decodeRead16, decodeWrite16, hlow, hhigh, if_false, decodeWordAddr_eq_none hword, implies_true, and_self]

/-- There is no high half of a base address register (R143, R144). -/
theorem baseHigh_not_accepted (n : Chan) : regAddr n 0x2 ∉ acceptedAddrs 16 := by
  revert n; decide

/-! ## The values read -/

theorem lowHalf_append (hi lo : Half) : lowHalf (hi ++ lo) = lo := BitVec.extractLsb'_append_eq_right

theorem highHalf_append (hi lo : Half) : highHalf (hi ++ lo) = hi := BitVec.extractLsb'_append_eq_left

theorem packBase_eq_append (c : Channel) : packBase c = 0#8 ++ c.base := BitVec.setWidth_eq_append (by decide)

theorem lowHalf_packBase (c : Channel) : lowHalf (packBase c) = c.base.extractLsb' 0 16 := by
  apply BitVec.eq_of_getLsbD_eq
  intro i hi
  have hin : i < 32 := by omega
  simp [lowHalf, packBase, hi, hin]

/-- A concatenation is its high part shifted over its low part. -/
theorem setWidth_append_eq_or {a b : Nat} (x : BitVec a) (y : BitVec b) (w : Nat) :
    (x ++ y).setWidth w = x.setWidth w <<< b ||| y.setWidth w := by
  apply BitVec.eq_of_getLsbD_eq
  intro i hi
  by_cases hlow : i < b
  · simp [BitVec.getLsbD_append, hi, hlow]
  · simp [BitVec.getLsbD_append, hi, hlow, BitVec.getLsbD_of_ge y i (by omega)]

/-- The fields of channel control below bit 11, under any bits above them. -/
theorem setWidth_ctrlFieldsLow {a : Nat} (hi : BitVec a) (c : Channel) (w : Nat) :
    (hi ++ c.sync.bits ++ BitVec.ofBool c.chop ++ 0#6 ++ BitVec.ofBool c.step ++ BitVec.ofBool c.direction).setWidth w =
      hi.setWidth w <<< 11 ||| c.sync.bits.setWidth w <<< 9 ||| (BitVec.ofBool c.chop).setWidth w <<< 8 |||
        (BitVec.ofBool c.step).setWidth w <<< 1 ||| (BitVec.ofBool c.direction).setWidth w := by
  simp only [setWidth_append_eq_or, BitVec.shiftLeft_or_distrib, ← BitVec.shiftLeft_add, BitVec.setWidth_zero, BitVec.or_zero,
    Nat.reduceAdd]

/-- All nine fields, under any bits above them. -/
theorem setWidth_ctrlFields {a : Nat} (hi : BitVec a) (c : Channel) (w : Nat) :
    (hi ++ c.readWrite ++ BitVec.ofBool c.trigger ++ 0#3 ++ BitVec.ofBool c.enabled ++ 0#1 ++ c.chopCpuWin ++ 0#1 ++ c.chopDmaWin ++
        0#5 ++ c.sync.bits ++ BitVec.ofBool c.chop ++ 0#6 ++ BitVec.ofBool c.step ++ BitVec.ofBool c.direction).setWidth w =
      hi.setWidth w <<< 31 ||| c.readWrite.setWidth w <<< 29 ||| (BitVec.ofBool c.trigger).setWidth w <<< 28 |||
        (BitVec.ofBool c.enabled).setWidth w <<< 24 ||| c.chopCpuWin.setWidth w <<< 20 ||| c.chopDmaWin.setWidth w <<< 16 |||
        c.sync.bits.setWidth w <<< 9 ||| (BitVec.ofBool c.chop).setWidth w <<< 8 ||| (BitVec.ofBool c.step).setWidth w <<< 1 |||
        (BitVec.ofBool c.direction).setWidth w := by
  simp only [setWidth_append_eq_or, BitVec.shiftLeft_or_distrib, ← BitVec.shiftLeft_add, BitVec.setWidth_zero, BitVec.or_zero,
    Nat.reduceAdd]

/-- The layout of channel control (R151): each field at its position, zeros elsewhere (D4). -/
theorem packCtrl_eq_append (c : Channel) :
    packCtrl c =
      0#1 ++ c.readWrite ++ BitVec.ofBool c.trigger ++ 0#3 ++ BitVec.ofBool c.enabled ++ 0#1 ++ c.chopCpuWin ++ 0#1 ++ c.chopDmaWin ++
        0#5 ++ c.sync.bits ++ BitVec.ofBool c.chop ++ 0#6 ++ BitVec.ofBool c.step ++ BitVec.ofBool c.direction := by
  refine Eq.trans ?_ ((setWidth_ctrlFields 0#1 c 32).symm.trans (BitVec.setWidth_eq _))
  simp only [packCtrl, bitWord, BitVec.setWidth_zero, BitVec.zero_shiftLeft, BitVec.zero_or]

/-- The fields above bit 15 are shifted out of the low half (R153). -/
theorem lowHalf_packCtrl (c : Channel) :
    lowHalf (packCtrl c) =
      0#5 ++ c.sync.bits ++ BitVec.ofBool c.chop ++ 0#6 ++ BitVec.ofBool c.step ++ BitVec.ofBool c.direction := by
  rw [packCtrl_eq_append, lowHalf, ← BitVec.setWidth_eq_extractLsb' (by decide)]
  refine (setWidth_ctrlFields 0#1 c 16).trans (Eq.trans ?_ ((setWidth_ctrlFieldsLow 0#5 c 16).symm.trans (BitVec.setWidth_eq _)))
  simp [BitVec.shiftLeft_eq_zero]

/-! ## The writes of base address and block control -/

theorem widen_low24 (h : Half) : (widen h).extractLsb' 0 24 = 0#8 ++ h := by
  rw [← BitVec.setWidth_eq_extractLsb' (by decide), widen, BitVec.setWidth_setWidth_of_le _ (by decide)]
  exact BitVec.setWidth_eq_append (by decide)

theorem loadBase_widen (h : Half) (c : Channel) : loadBase (widen h) c = { c with base := 0#8 ++ h } := by
  rw [loadBase, widen_low24]

/-- The high half of a widened half is 0, which stands for 0x10000 (R149). -/
theorem loadBlock_widen (h : Half) (c : Channel) :
    loadBlock (widen h) c = { c with blockSize := blockField h, blockCount := 0x10000 } := by
  rw [loadBlock, widen_eq_append, lowHalf_append, highHalf_append]
  rfl

/-- A store of channel `n` alone (R140). -/
theorem setsChannel_of_exec_eq {i : Instr} {n : Chan} {c : Channel} {s : State}
    (h : exec i s = .next (s.setDma (s.dma.setChan n c))) : setsChannel i n c s := by
  refine ⟨_, h, ?_, fun m hm => ?_, ⟨rfl, rfl, rfl, rfl, rfl, rfl, rfl⟩, rfl, rfl, rfl, rfl, rfl, rfl, rfl, rfl, rfl⟩
  · simp
  · simp [hm]

theorem setsChannel_of_channelWrite {i : Instr} {n : Chan} {f : Channel → Channel} {s : State} (hcall : s.dma.inCallback = false)
    (h : exec i s = channelWrite n f s) : setsChannel i n (f (s.dma.chan n)) s :=
  setsChannel_of_exec_eq (h.trans (channelWrite_eq_next.2 ⟨hcall, rfl⟩))

/-! ## The writes of channel control -/

theorem SyncMode.ofBits_of_ne_reserved {b : BitVec 2} (h : b ≠ 3) :
    SyncMode.ofBits b = some (if b = 0 then .manual else if b = 1 then .request else .linkedList) := by
  revert b; decide

/-- Manual sync is written by the value 0 alone (spec/30_encoding.md R106). -/
theorem writtenChannel_sync_eq_manual {v : Word} {c : Channel} : (writtenChannel v c).sync = .manual ↔ v.extractLsb' 9 2 = 0 := by
  simp only [writtenChannel]
  split_ifs with h0 h1
  · exact iff_of_true rfl h0
  · exact iff_of_false nofun h0
  · exact iff_of_false nofun h0

theorem writtenChannel_active_iff {v : Word} {c : Channel} : (writtenChannel v c).active ↔ activates v := by
  rw [Channel.active, writtenChannel_sync_eq_manual]
  rfl

/-- With legal sync bits the store of a control write is the layout of the statements (R152 step 2). -/
theorem ctrlWrite_of_inactive {n : Chan} {v : Word} {s : State} (hcall : s.dma.inCallback = false) (hsync : v.extractLsb' 9 2 ≠ 3)
    (hact : ¬activates v) : ctrlWrite n v s = .next (s.setDma (s.dma.setChan n (writtenChannel v (s.dma.chan n)))) := by
  refine ctrlWrite_eq_next.2 (.inr ⟨_, SyncMode.ofBits_of_ne_reserved hsync, hcall, .inl ⟨?_, rfl⟩⟩)
  exact Bool.eq_false_iff.2 fun h => hact (writtenChannel_active_iff.1 (isActive_iff.1 h))

theorem ctrlWrite_of_active {n : Chan} {v : Word} {s : State} (hcall : s.dma.inCallback = false) (hsync : v.extractLsb' 9 2 ≠ 3)
    (hact : activates v) :
    ctrlWrite n v s = trigger n (s.setDma ((s.dma.setChan n (writtenChannel v (s.dma.chan n))).startDispatch n)) := by
  have hisActive : isActive (writtenChannel v (s.dma.chan n)) = true := isActive_iff.2 (writtenChannel_active_iff.2 hact)
  unfold ctrlWrite
  rw [SyncMode.ofBits_of_ne_reserved hsync]
  dsimp only
  rw [hcall]
  exact if_pos hisActive

/-- Bit 24 of a widened half is 0 (R154). -/
theorem widen_not_activates (h : Half) : ¬activates (widen h) := by
  rintro ⟨henabled, -⟩
  simp [widen] at henabled

/-! ## The dispatch -/

/-- A read of DMA has an answer in every state (R83). -/
theorem dmaRead_answers {i : Instr} (hread : isDmaRead i = true) (hwf : i.wellFormed = true) (s : State) :
    ∃ r, exec i s = .next { s with result := r } := by
  cases i
  case irqEn n =>
    have hn : n < 7 := of_decide_eq_true hwf
    exact ⟨_, (exec_irqEn n s).trans (withChannel_of_lt hn _)⟩
  case rd32Base | rd16Base | rd32Block | rd16Block | rd32Ctrl | rd16Ctrl | rd32Dpcr | rd16Dpcr | rd32Dicr | rd16DicrL | rd16DicrH |
      rd8Dicr0 | rd8Dicr1 | rd8Dicr2 | rd8Dicr3 | hasIrq => exact ⟨_, rfl⟩
  all_goals cases hread

/-- The record of an invocation is DMA as the dispatching write left it (R200; Log 27). -/
theorem engineSees_enterCallback {n : Chan} {s : State} (hact : (s.dma.chan n).active) :
    engineSees n (s.dma.chan n) s { port := n, dma := s.dma.enterCallback } :=
  ⟨rfl, rfl, hact, fun _ _ => rfl, rfl, rfl, rfl, rfl, rfl, rfl, rfl, rfl, fun _ hread hwf => dmaRead_answers hread hwf _⟩

/-- What an invocation leaves of the state in which it begins: one record, channel `n` done, its flag set if masked in (R196 to R198). -/
theorem trigger_dispatched {n : Chan} {s t : State} (h : trigger n s = .next t) : dispatched n (s.dma.chan n) s t := by
  obtain ⟨hcall, ⟨_, hact⟩, _, rfl⟩ := trigger_eq_next.1 h
  refine ⟨?chan, fun m hm => ?others, ?globals, dispatch_flags s.dma n, rfl,
    ⟨_, rfl, engineSees_enterCallback (isActive_iff.1 hact)⟩, rfl, rfl, rfl, rfl, rfl, rfl⟩
  case chan => rw [dispatch_chan, Dma.chan_done, if_pos rfl]
  case others => rw [dispatch_chan, Dma.chan_done, if_neg hm]
  case globals => simp [sameGlobalsButFlags, engineRun_eq, hcall]

/-- A bound engine is invoked for the write that dispatches its active channel (R195, R196). -/
theorem exists_trigger_dispatched {n : Chan} {e : Nat} {s : State} (hact : (s.dma.chan n).active)
    (hcall : s.dma.inCallback = false) (hdisp : s.dma.dispatching = some n) (hengine : s.dma.engine = some e) :
    ∃ t, trigger n s = .next t ∧ dispatched n (s.dma.chan n) s t :=
  have htrigger := trigger_eq_next.2 ⟨hcall, ⟨hdisp, isActive_iff.2 hact⟩, ⟨e, hengine⟩, rfl⟩
  ⟨_, htrigger, trigger_dispatched htrigger⟩

/-- The store before an invocation changes channel `n` alone, so what the invocation leaves can be said of the state before the store. -/
theorem dispatched_of_stored {n : Chan} {c : Channel} {s t : State}
    (h : dispatched n c (s.setDma ((s.dma.setChan n c).startDispatch n)) t) : dispatched n c s t := by
  obtain ⟨hchan, hothers, hglobals, hflags, hdisp, ⟨k, hcalls, hsees⟩, hrest⟩ := h
  obtain ⟨hport, hkchan, hact, hkothers, hin, hdpcr, hcic, hbus, hmask, hmaster, hkflags, hengine, _⟩ := hsees
  have hsame : ∀ m, m ≠ n → ((s.dma.setChan n c).startDispatch n).chan m = s.dma.chan m := fun m hm => by simp [hm]
  have hsees : engineSees n c s k :=
    ⟨hport, hkchan, hact, fun m hm => (hkothers m hm).trans (hsame m hm), hin, hdpcr, hcic, hbus, hmask, hmaster, hkflags, hengine,
      fun _ hread hwf => dmaRead_answers hread hwf _⟩
  exact ⟨hchan, fun m hm => (hothers m hm).trans (hsame m hm), hglobals, hflags, hdisp, ⟨k, hcalls, hsees⟩, hrest⟩

/-- The dispatch of a store that makes channel `n` active, with an engine bound. -/
theorem exists_trigger_of_stored {n : Chan} {c : Channel} {e : Nat} {s : State} (hcall : s.dma.inCallback = false) (hact : c.active)
    (hengine : s.dma.engine = some e) :
    ∃ t, trigger n (s.setDma ((s.dma.setChan n c).startDispatch n)) = .next t ∧ dispatched n c s t := by
  have hchan : (s.setDma ((s.dma.setChan n c).startDispatch n)).dma.chan n = c := by simp
  have hactive : ((s.setDma ((s.dma.setChan n c).startDispatch n)).dma.chan n).active := by rwa [hchan]
  obtain ⟨t, htrigger, ht⟩ := exists_trigger_dispatched hactive hcall rfl hengine
  rw [hchan] at ht
  exact ⟨t, htrigger, dispatched_of_stored ht⟩

/-! ## The statements -/

/-- Settles O1: each read replies with the stored bits, and the half of the register at +2 has no address. -/
theorem baseAddressReads : Obligations.BaseAddressReads := by
  unfold Obligations.BaseAddressReads
  intro n s
  refine ⟨decode_of_encode_eq ?_ rfl, ?word, decode_of_encode_eq ?_ rfl, ?half,
    (decode_half_of_not_accepted (baseHigh_not_accepted n)).1⟩
  case word => rw [← packBase_eq_append]; rfl
  case half => rw [← lowHalf_packBase]; rfl
  all_goals rw [regAddr_eq_channelAddr]; rfl

/-- Settles O2: both writes are a store of channel `n` alone, which reaches no dispatch. -/
theorem baseAddressWrites : Obligations.BaseAddressWrites := by
  unfold Obligations.BaseAddressWrites
  intro n v h s hcall
  refine ⟨decode_of_encode_eq ?_ rfl, ?word, decode_of_encode_eq ?_ rfl, ?half,
    (decode_half_of_not_accepted (baseHigh_not_accepted n)).2 h⟩
  case word => exact setsChannel_of_channelWrite (f := loadBase v) hcall rfl
  case half =>
    rw [← loadBase_widen]
    exact setsChannel_of_channelWrite hcall rfl
  all_goals rw [regAddr_eq_channelAddr]; rfl

/-- Settles O3: the reads are the halves of the packed word, and the half write stores what the widened word writes. -/
theorem blockControlReadsAndHalfWrite : Obligations.BlockControlReadsAndHalfWrite := by
  unfold Obligations.BlockControlReadsAndHalfWrite
  intro n h s
  refine ⟨rfl, ?half, fun hcall => ?write⟩
  case half =>
    have hlow : lowHalf (packBlock (s.dma.chan n)) = BitVec.ofNat 16 (s.dma.chan n).blockSize := lowHalf_append _ _
    rw [← hlow]
    rfl
  case write =>
    have hset := setsChannel_of_channelWrite (i := .wr16Block n h) hcall rfl
    rw [loadBlock_widen] at hset
    exact hset

/-- Settles O4: the store of both halves, which looks at no other field of the channel. -/
theorem blockControlWordWrite : Obligations.BlockControlWordWrite := by
  unfold Obligations.BlockControlWordWrite
  intro n v s hcall
  refine ⟨decode_of_encode_eq ?_ rfl, setsChannel_of_channelWrite (f := loadBlock v) hcall rfl⟩
  rw [regAddr_eq_channelAddr]; rfl

/-- Settles O5: shifts into place and concatenation are the same word. -/
theorem controlReads : Obligations.ControlReads := by
  unfold Obligations.ControlReads
  intro n s
  rw [← packCtrl_eq_append, ← lowHalf_packCtrl]
  exact ⟨rfl, rfl⟩

/-- Settles O7: without activation a control write ends with its store, and a widened half never activates. -/
theorem controlWriteInactive : Obligations.ControlWriteInactive := by
  unfold Obligations.ControlWriteInactive
  intro n v h s hcall
  refine ⟨fun hsync hact => setsChannel_of_exec_eq (ctrlWrite_of_inactive hcall hsync hact), fun hsync => ?_⟩
  rw [← widen_eq_append]
  have hwide : (widen h).extractLsb' 9 2 ≠ 3 := by rwa [widen_sync]
  exact setsChannel_of_exec_eq (ctrlWrite_of_inactive hcall hwide (widen_not_activates h))

/-- Settles O8: the store, then the one invocation on the fields just stored. -/
theorem controlWriteDispatches : Obligations.ControlWriteDispatches := by
  unfold Obligations.ControlWriteDispatches
  intro n v e s hcall hengine hsync hact
  obtain ⟨t, htrigger, ht⟩ := exists_trigger_of_stored hcall (writtenChannel_active_iff.2 hact) hengine
  exact ⟨t, (ctrlWrite_of_active hcall hsync hact).trans htrigger, ht⟩

/-- Settles O10: a byte of a channel register has an operation of the table, which raises for its own address. -/
theorem byteAccessToChannelRegisterRaises : Obligations.ByteAccessToChannelRegisterRaises := by
  unfold Obligations.ByteAccessToChannelRegisterRaises
  intro n k b s
  simp only [regAddr_add_byte]
  exact ⟨⟨decode_of_encode_eq rfl rfl, rfl⟩, ⟨decode_of_encode_eq rfl rfl, rfl⟩, ⟨decode_of_encode_eq rfl rfl, rfl⟩,
    ⟨decode_of_encode_eq rfl rfl, rfl⟩, ⟨decode_of_encode_eq rfl rfl, rfl⟩, ⟨decode_of_encode_eq rfl rfl, rfl⟩⟩

end Sys2Proof.Machine
end

section
/-! The invocation of the transfer engine (spec/41_dma_global_irq_trigger.md R195 to R202): what `TRIGGER` answers in every state, and
that an activating channel-control write is the one operation of the table that adds an invocation. -/

namespace Sys2Proof.Machine

/-! ## What the side-band operations are (spec/30_encoding.md R137) -/

theorem exec_setIrq (n : Nat) (s : State) : exec (.setIrq n) s = withChannel n (fun ch => .next (s.setDma (s.dma.setIrq ch))) := rfl

theorem exec_doneCh (n : Nat) (s : State) : exec (.doneCh n) s = withChannel n (fun ch => .next (s.setDma (s.dma.done ch))) := rfl

theorem exec_triggerCh (n : Nat) (s : State) : exec (.triggerCh n) s = withChannel n (fun ch => trigger ch s) := rfl

/-- On a channel, `TRIGGER` is the invocation of its engine (R196). -/
theorem exec_triggerCh_val (n : Chan) (s : State) : exec (.triggerCh n.val) s = trigger n s :=
  (exec_triggerCh n.val s).trans (withChannel_of_lt n.isLt _)

/-! ## When the invocation is refused -/

/-- Invocations do not nest (spec/70_reset_and_hazards.md R390; Log 7). -/
theorem trigger_inCallback {n : Chan} {s : State} (hcall : s.dma.inCallback = true) : trigger n s = .refused .nestedTrigger :=
  if_pos hcall

/-- There is no engine to invoke (R202). -/
theorem trigger_without_engine {n : Chan} {s : State} (hcall : s.dma.inCallback = false) (hdisp : s.dma.dispatching = some n)
    (hact : (s.dma.chan n).active) (hengine : s.dma.engine = none) : trigger n s = .refused .noEngineBound := by
  simp [trigger, hcall, hdisp, isActive_iff.2 hact, hengine]

/-! ## What an operation adds to the invocations -/

/-- Whenever the operation completes, it has added no invocation. -/
def KeepsEngineCalls (f : State → Out) : Prop := ∀ s t : State, f s = .next t → t.engineCalls = s.engineCalls

theorem reply_keepsEngineCalls (f : State → Result) : KeepsEngineCalls (fun s => .next (s.reply (f s))) := by
  intro s t h
  obtain rfl := next_eq_next.1 h
  rfl

theorem setDma_keepsEngineCalls (f : Dma → Dma) : KeepsEngineCalls (fun s => .next (s.setDma (f s.dma))) := by
  intro s t h
  obtain rfl := next_eq_next.1 h
  rfl

theorem busWrite_keepsEngineCalls (f : Dma → Dma) : KeepsEngineCalls (busWrite f) := by
  intro s t h
  obtain ⟨_, rfl⟩ := busWrite_eq_next.1 h
  rfl

theorem channelWrite_keepsEngineCalls (n : Chan) (f : Channel → Channel) : KeepsEngineCalls (channelWrite n f) :=
  busWrite_keepsEngineCalls fun d => d.setChan n (f (d.chan n))

theorem KeepsEngineCalls.withChannel {f : Chan → State → Out} (hf : ∀ ch, KeepsEngineCalls (f ch)) (n : Nat) :
    KeepsEngineCalls (fun s => Machine.withChannel n (fun ch => f ch s)) := by
  intro s t h
  obtain ⟨hn, ht⟩ := withChannel_eq_next.1 h
  exact hf ⟨n, hn⟩ s t ht

theorem KeepsEngineCalls.andThen {f g : State → Out} (hf : KeepsEngineCalls f) (hg : KeepsEngineCalls g) :
    KeepsEngineCalls (fun s => Machine.andThen (f s) g) := by
  intro s t h
  obtain ⟨r, hr, ht⟩ := andThen_eq_next.1 h
  exact (hg r t ht).trans (hf s r hr)

theorem gpaBegin_keepsEngineCalls (w0 : Word) (ctx : DrawCtx) : KeepsEngineCalls (gpaBegin w0 ctx) := by
  intro s t h
  obtain ⟨_, rfl⟩ | ⟨_, _, rfl⟩ := gpaBegin_eq_next.1 h <;> rfl

theorem gpaAdd_keepsEngineCalls (w : Word) : KeepsEngineCalls (gpaAdd w) := by
  intro s t h
  obtain ⟨_, _, _, rfl⟩ := gpaAdd_eq_next.1 h
  rfl

theorem gpaReady_keepsEngineCalls : KeepsEngineCalls gpaReady := by
  intro s t h
  obtain ⟨_, _, rfl⟩ := gpaReady_eq_next.1 h
  rfl

theorem gpaDraw_keepsEngineCalls : KeepsEngineCalls gpaDraw := by
  intro s t h
  obtain ⟨_, _, _, rfl⟩ | ⟨_, _, _, rfl⟩ := gpaDraw_eq_next.1 h <;> rfl

theorem gpaAddAll_keepsEngineCalls (ws : List Word) : KeepsEngineCalls (gpaAddAll ws) := by
  induction ws with
  | nil =>
    intro s t h
    obtain rfl := next_eq_next.1 h
    rfl
  | cons w rest ih => exact (gpaAdd_keepsEngineCalls w).andThen ih

theorem runPrimitive_keepsEngineCalls (ctx : DrawCtx) (w0 : Word) (ws : List Word) : KeepsEngineCalls (runPrimitive ctx w0 ws) :=
  (gpaBegin_keepsEngineCalls w0 ctx).andThen ((gpaAddAll_keepsEngineCalls (w0 :: ws)).andThen gpaDraw_keepsEngineCalls)

theorem padExchange_keepsEngineCalls (d : Byte) : KeepsEngineCalls (padExchange d) := by
  intro s t h
  obtain ⟨_, _, rfl⟩ | ⟨_, _, rfl⟩ := padExchange_eq_next.1 h <;> rfl

theorem padDialogue_keepsEngineCalls (bytes : List Byte) : KeepsEngineCalls (padDialogue bytes) := by
  intro s t h
  obtain ⟨_, rfl⟩ := padDialogue_eq_next.1 h
  rfl

theorem pollWith_keepsEngineCalls (prof : Option Profile) (snap : Snapshot) : KeepsEngineCalls (pollWith prof snap) := by
  intro s t h
  obtain ⟨_, rfl⟩ | ⟨_, _, _, _, rfl⟩ := pollWith_eq_next.1 h <;> rfl

/-- With legal sync bits the nine stores are the layout of the statements (spec/40_dma_channel_registers.md R152 step 2). -/
theorem loadCtrl_eq_writtenChannel {v : Word} {m : SyncMode} (hm : SyncMode.ofBits (v.extractLsb' 9 2) = some m) (c : Channel) :
    v.extractLsb' 9 2 ≠ 3 ∧ loadCtrl v m c = writtenChannel v c := by
  have hsync : v.extractLsb' 9 2 ≠ 3 := fun h3 => by simp [SyncMode.ofBits_eq_none.2 h3] at hm
  obtain rfl := Option.some.inj ((SyncMode.ofBits_of_ne_reserved hsync).symm.trans hm)
  exact ⟨hsync, rfl⟩

/-- A legal value that makes channel `n` active has been written, and one invocation with that port has been added (R195, R196). -/
def InvokedOnce (n : Chan) (v : Word) (s t : State) : Prop :=
  v.extractLsb' 9 2 ≠ 3 ∧ activates v ∧ ∃ k : EngineCall, t.engineCalls = s.engineCalls ++ [k] ∧ k.port = n

/-- A channel-control write adds an invocation only if it activates its channel, and then the one its dispatch makes. -/
theorem ctrlWrite_engineCalls {n : Chan} {v : Word} {s t : State} (h : ctrlWrite n v s = .next t) :
    t.engineCalls = s.engineCalls ∨ InvokedOnce n v s t := by
  obtain ⟨_, rfl⟩ | ⟨m, hm, _, ⟨_, rfl⟩ | ⟨hact, htrigger⟩⟩ := ctrlWrite_eq_next.1 h
  · exact .inl rfl
  · exact .inl rfl
  · obtain ⟨hsync, hload⟩ := loadCtrl_eq_writtenChannel hm (s.dma.chan n)
    have hv : activates v := writtenChannel_active_iff.1 (hload ▸ isActive_iff.1 hact)
    obtain ⟨_, _, _, rfl⟩ := trigger_eq_next.1 htrigger
    exact .inr ⟨hsync, hv, _, rfl, rfl⟩

/-- Between two operations no write is dispatching, so `TRIGGER` has nothing to name (R137; Log 25). -/
theorem trigger_ne_next_of_idle {n : Chan} {s t : State} (hidle : s.dma.dispatching = none) : trigger n s ≠ .next t := by
  intro h
  obtain ⟨_, ⟨hdisp, _⟩, _⟩ := trigger_eq_next.1 h
  simp [hidle] at hdisp

theorem Means.engineCalls {i : Instr} {u : BlockUnit} {f : State → Out} {s t : State} (hm : Means i u f)
    (hidle : s.dma.dispatching = none) (h : f s = .next t) :
    t.engineCalls = s.engineCalls ∨ ∃ n v, i = .wr32Ctrl n v ∧ InvokedOnce n v s t := by
  cases hm
  case controlWord n v => exact (ctrlWrite_engineCalls h).imp_right fun hinvoked => ⟨n, v, rfl, hinvoked⟩
  case controlHalf n k => exact (ctrlWrite_engineCalls h).imp_right fun ⟨_, hact, _⟩ => absurd hact (widen_not_activates k)
  case triggerCh => obtain ⟨_, h⟩ := withChannel_eq_next.1 h; exact absurd h (trigger_ne_next_of_idle hidle)
  -- No other operation reaches the dispatch.
  all_goals left
  case answer f => exact reply_keepsEngineCalls (fun s => f s.dma) s t h
  case maskTest n =>
    exact KeepsEngineCalls.withChannel (fun ch => reply_keepsEngineCalls fun s => .bit (irqEnabled s.dma ch)) n s t h
  case baseWrite | blockWrite => exact channelWrite_keepsEngineCalls _ _ s t h
  case globalWrite | dicrWord | dicrHigh | dicrByte3 => exact busWrite_keepsEngineCalls _ s t h
  case setIrq n => exact KeepsEngineCalls.withChannel (fun ch => setDma_keepsEngineCalls fun d => d.setIrq ch) n s t h
  case doneCh n => exact KeepsEngineCalls.withChannel (fun ch => setDma_keepsEngineCalls fun d => d.done ch) n s t h
  case beginPrim => exact gpaBegin_keepsEngineCalls _ _ s t h
  case addWord => exact gpaAdd_keepsEngineCalls _ s t h
  case ready => exact gpaReady_keepsEngineCalls s t h
  case draw => exact gpaDraw_keepsEngineCalls s t h
  case primitive => exact runPrimitive_keepsEngineCalls _ _ _ s t h
  case exchange => exact padExchange_keepsEngineCalls _ s t h
  case poll => exact pollWith_keepsEngineCalls _ _ s t h
  case connect => obtain rfl := next_eq_next.1 h; rfl
  case dialogue => exact padDialogue_keepsEngineCalls _ s t h

/-- Settles O9: an activating write is its store followed by `trigger`, whose answer the state fixes, and no other operation reaches it. -/
theorem dispatchNeedsWriteAndEngine : Obligations.DispatchNeedsWriteAndEngine := by
  unfold Obligations.DispatchNeedsWriteAndEngine
  intro n v s
  simp only [exec_triggerCh_val]
  refine ⟨?write, ?unbound, ?inside, ?outside, trigger_inCallback, ?noChannel, ?onlySource⟩
  case write => exact fun hcall hsync hact => ctrlWrite_of_active hcall hsync hact
  case unbound =>
    intro hcall hengine hsync hact
    refine (ctrlWrite_of_active hcall hsync hact).trans (trigger_without_engine hcall rfl ?_ hengine)
    simpa using writtenChannel_active_iff.2 hact
  case inside =>
    exact fun hcall hdisp hact =>
      ⟨trigger_without_engine hcall hdisp hact, fun _ hengine => exists_trigger_dispatched hact hcall hdisp hengine⟩
  case outside =>
    intro hcall hnot
    rw [← isActive_iff] at hnot
    exact trigger_without_write hcall hnot
  case noChannel => exact fun k hk => (exec_triggerCh k s).trans (withChannel_refused (Nat.not_lt.2 hk) _)
  case onlySource =>
    intro i t hidle h
    obtain hkept | ⟨m, w, hi, hsync, hact, k, hcalls, hport⟩ := (exec_means i).engineCalls hidle h
    · exact .inl hkept
    · exact .inr ⟨m, w, k, hi, hsync, hact, hcalls, hport⟩

end Sys2Proof.Machine
end

section
/-! The global registers and the interrupt signals (spec/41_dma_global_irq_trigger.md R170 to R194): the values read as concatenations
of fields, the fields written, and what a word written to DICR reads back as. -/

namespace Sys2Proof.Machine

/-! ## The values read (R174 to R185) -/

/-- The fields of DICR from bit 0 to the flags, under any bits above them (R174). -/
theorem setWidth_dicrFields {a : Nat} (hi : BitVec a) (d : Dma) (w : Nat) :
    (hi ++ d.flags ++ BitVec.ofBool d.masterEnable ++ d.mask ++ BitVec.ofBool d.busError ++ 0#8 ++ d.cic).setWidth w =
      hi.setWidth w <<< 31 ||| d.flags.setWidth w <<< 24 ||| (BitVec.ofBool d.masterEnable).setWidth w <<< 23 |||
        d.mask.setWidth w <<< 16 ||| (BitVec.ofBool d.busError).setWidth w <<< 15 ||| d.cic.setWidth w := by
  simp only [setWidth_append_eq_or, BitVec.shiftLeft_or_distrib, ← BitVec.shiftLeft_add, BitVec.setWidth_zero, BitVec.or_zero,
    Nat.reduceAdd]

/-- The fields of the low half below bit 15 (R178). -/
theorem setWidth_dicrFieldsLow {a : Nat} (hi : BitVec a) (d : Dma) (w : Nat) :
    (hi ++ 0#8 ++ d.cic).setWidth w = hi.setWidth w <<< 15 ||| d.cic.setWidth w := by
  simp only [setWidth_append_eq_or, ← BitVec.shiftLeft_add, BitVec.setWidth_zero, BitVec.or_zero, Nat.reduceAdd]

/-- The fields of the high half below bit 15 (R179). -/
theorem setWidth_dicrFieldsHigh {a : Nat} (hi : BitVec a) (d : Dma) (w : Nat) :
    (hi ++ d.flags ++ BitVec.ofBool d.masterEnable ++ d.mask).setWidth w =
      hi.setWidth w <<< 15 ||| d.flags.setWidth w <<< 8 ||| (BitVec.ofBool d.masterEnable).setWidth w <<< 7 ||| d.mask.setWidth w := by
  simp only [setWidth_append_eq_or, BitVec.shiftLeft_or_distrib, ← BitVec.shiftLeft_add, Nat.reduceAdd]

/-- Bits 14:7 are zeros (D9). -/
theorem packDicr_eq_append (d : Dma) :
    packDicr d =
      BitVec.ofBool (masterFlag d) ++ d.flags ++ BitVec.ofBool d.masterEnable ++ d.mask ++ BitVec.ofBool d.busError ++ 0#8 ++ d.cic :=
  (setWidth_dicrFields (BitVec.ofBool (masterFlag d)) d 32).symm.trans (BitVec.setWidth_eq _)

theorem packDicrL_eq_append (d : Dma) : packDicrL d = BitVec.ofBool d.busError ++ 0#8 ++ d.cic :=
  (setWidth_dicrFieldsLow (BitVec.ofBool d.busError) d 16).symm.trans (BitVec.setWidth_eq _)

theorem packDicrH_eq_append (d : Dma) :
    packDicrH d = BitVec.ofBool (masterFlag d) ++ d.flags ++ BitVec.ofBool d.masterEnable ++ d.mask :=
  (setWidth_dicrFieldsHigh (BitVec.ofBool (masterFlag d)) d 16).symm.trans (BitVec.setWidth_eq _)

theorem packDicr0_eq_append (d : Dma) : packDicr0 d = 0#1 ++ d.cic := BitVec.setWidth_eq_append (by decide)

theorem packDicr1_eq_append (d : Dma) : packDicr1 d = BitVec.ofBool d.busError ++ 0#7 := by
  refine Eq.trans ?_ ((setWidth_append_eq_or (BitVec.ofBool d.busError) 0#7 8).symm.trans (BitVec.setWidth_eq _))
  rw [BitVec.setWidth_zero, BitVec.or_zero, packDicr1]

theorem packDicr2_eq_append (d : Dma) : packDicr2 d = BitVec.ofBool d.masterEnable ++ d.mask :=
  (setWidth_append_eq_or _ _ 8).symm.trans (BitVec.setWidth_eq _)

theorem packDicr3_eq_append (d : Dma) : packDicr3 d = BitVec.ofBool (masterFlag d) ++ d.flags :=
  (setWidth_append_eq_or _ _ 8).symm.trans (BitVec.setWidth_eq _)

/-! ## A control value written and read back (R177) -/

/-- The control bits of DICR: `cic`, `busError`, `mask`, `masterEnable`. -/
def dicrControl : Word := 0x00FF807F#32

theorem and_eq_self_of_and_not_eq_zero {w : Nat} {v c : BitVec w} (h : v &&& ~~~c = 0) : v &&& c = v := by
  apply BitVec.eq_of_getLsbD_eq
  intro i hi
  have hbit := congrArg (fun x => x.getLsbD i) h
  simpa [hi] using hbit

/-- A word without bits outside the control bits writes 1 at no flag. -/
theorem flagBits_of_control {v : Word} (h : v &&& dicrControl = v) : v.extractLsb' 24 7 = 0 := by
  rw [← h, BitVec.extractLsb'_and]
  exact BitVec.and_zero

theorem clearFlags_zero (flags : BitVec 7) : clearFlags flags 0 = flags := by
  rw [clearFlags, BitVec.ofNat_eq_ofNat, BitVec.not_zero, BitVec.and_allOnes]

/-- The control bits read back are the control bits written, whatever else the word held: bit by bit, each from its own field. -/
theorem packDicr_loadDicr_control (v : Word) (d : Dma) : packDicr (loadDicr v d) &&& dicrControl = v &&& dicrControl := by
  apply BitVec.eq_of_getLsbD_eq
  intro i hi
  interval_cases i <;> simp [packDicr, bitWord, dicrControl]

theorem packDicr_flags (d : Dma) : (packDicr d).extractLsb' 24 7 = d.flags := by
  apply BitVec.eq_of_getLsbD_eq
  intro i hi
  interval_cases i <;> simp [packDicr, bitWord]

theorem packDicr_masterFlag (d : Dma) : (packDicr d).getLsbD 31 = masterFlag d := by
  simp [packDicr, bitWord]

/-! ## The statements -/

/-- A bus write outside an invocation is its store. -/
theorem busWrite_of_outside {s : State} (hcall : s.dma.inCallback = false) (f : Dma → Dma) : busWrite f s = .next (s.setDma (f s.dma)) :=
  busWrite_eq_next.2 ⟨hcall, rfl⟩

/-- A reply may be read in another spelling of its value. -/
theorem returns_of_eq {i : Instr} {r r' : Result} {s : State} (hr : r = r') (h : returns i r s) : returns i r' s := hr ▸ h

/-- Settles O14: shifts into place and concatenation are the same word. -/
theorem interruptRegisterWordRead : Obligations.InterruptRegisterWordRead := by
  unfold Obligations.InterruptRegisterWordRead
  exact fun s => returns_of_eq (congrArg Result.word (packDicr_eq_append s.dma)) rfl

/-- Settles O16: each half is read and stored by the byte lanes it covers, apart from the other half. -/
theorem interruptRegisterHalves : Obligations.InterruptRegisterHalves := by
  unfold Obligations.InterruptRegisterHalves
  intro h s
  refine ⟨?readLow, ?readHigh, fun hcall => ⟨busWrite_of_outside hcall (loadDicrL h), busWrite_of_outside hcall (loadDicrH h)⟩⟩
  case readLow => exact returns_of_eq (congrArg Result.half (packDicrL_eq_append s.dma)) rfl
  case readHigh => exact returns_of_eq (congrArg Result.half (packDicrH_eq_append s.dma)) rfl

/-- Settles O17: each byte has an address of its own, and its read is a reply. -/
theorem interruptRegisterByteReads : Obligations.InterruptRegisterByteReads := by
  unfold Obligations.InterruptRegisterByteReads
  intro s
  refine ⟨⟨decode_of_encode_eq rfl rfl, ?byte0⟩, ⟨decode_of_encode_eq rfl rfl, ?byte1⟩, ⟨decode_of_encode_eq rfl rfl, ?byte2⟩,
    ⟨decode_of_encode_eq rfl rfl, ?byte3⟩⟩
  case byte0 => exact returns_of_eq (congrArg Result.byte (packDicr0_eq_append s.dma)) rfl
  case byte1 => exact returns_of_eq (congrArg Result.byte (packDicr1_eq_append s.dma)) rfl
  case byte2 => exact returns_of_eq (congrArg Result.byte (packDicr2_eq_append s.dma)) rfl
  case byte3 => exact returns_of_eq (congrArg Result.byte (packDicr3_eq_append s.dma)) rfl

/-- Settles O19: a control value writes 1 at no flag, so the read assembles the fields written and the flags that stand. -/
theorem interruptRegisterRoundTrip : Obligations.InterruptRegisterRoundTrip := by
  unfold Obligations.InterruptRegisterRoundTrip
  intro v s hcall hv
  have hcontrol : v &&& dicrControl = v := and_eq_self_of_and_not_eq_zero hv
  have hflags : (loadDicr v s.dma).flags = s.dma.flags := by
    rw [loadDicr_flags, flagBits_of_control hcontrol, clearFlags_zero]
  refine ⟨_, _, packDicr (loadDicr v s.dma), busWrite_of_outside hcall (loadDicr v), rfl, rfl, ?control, ?flags, ?master⟩
  case control => exact (packDicr_loadDicr_control v s.dma).trans hcontrol
  case flags => rw [packDicr_flags, hflags]
  case master =>
    rw [packDicr_masterFlag, masterFlag, hflags]
    rfl

/-- Settles O12: both reads reply with the stored word, and there is no high half of DPCR. -/
theorem priorityRegisterReads : Obligations.PriorityRegisterReads := by
  unfold Obligations.PriorityRegisterReads
  have hnoHigh : 0x1F8010F2#32 ∉ acceptedAddrs 16 := by decide
  refine ⟨fun s => ⟨decode_of_encode_eq rfl rfl, ?word, decode_of_encode_eq rfl rfl, ?half, ?noHigh⟩, ?resetWord, ?resetHalf⟩
  case noHigh => exact (decode_half_of_not_accepted hnoHigh).1
  all_goals rfl

/-- Settles O13: both writes are a store of DPCR alone. -/
theorem priorityRegisterWrites : Obligations.PriorityRegisterWrites := by
  unfold Obligations.PriorityRegisterWrites
  intro v h s hcall
  rw [← widen_eq_append]
  exact ⟨busWrite_of_outside hcall fun d => { d with dpcr := v }, busWrite_of_outside hcall fun d => { d with dpcr := widen h }⟩

/-- Settles O15: the write is a store of the five fields of DICR. -/
theorem interruptRegisterWordWrite : Obligations.InterruptRegisterWordWrite := by
  unfold Obligations.InterruptRegisterWordWrite
  intro v s hcall
  exact ⟨decode_of_encode_eq rfl rfl, busWrite_of_outside hcall (loadDicr v)⟩

/-- Settles O18: each byte has an address of its own, and its write is a store of the fields in it. -/
theorem interruptRegisterByteWrites : Obligations.InterruptRegisterByteWrites := by
  unfold Obligations.InterruptRegisterByteWrites
  intro b s hcall
  exact ⟨⟨decode_of_encode_eq rfl rfl, busWrite_of_outside hcall (loadDicr0 b)⟩,
    ⟨decode_of_encode_eq rfl rfl, busWrite_of_outside hcall (loadDicr1 b)⟩,
    ⟨decode_of_encode_eq rfl rfl, busWrite_of_outside hcall (loadDicr2 b)⟩,
    ⟨decode_of_encode_eq rfl rfl, busWrite_of_outside hcall (loadDicr3 b)⟩⟩

/-- Settles O20: a number below 7 is a channel, on which both operations are total; any other is refused. -/
theorem setInterruptFlagAndMaskTest : Obligations.SetInterruptFlagAndMaskTest := by
  unfold Obligations.SetInterruptFlagAndMaskTest
  intro n s
  refine ⟨fun hn => ⟨?set, ?test⟩, fun hn => ⟨?setRefused, ?testRefused⟩⟩
  case set => exact (exec_setIrq n s).trans (withChannel_of_lt hn _)
  case test => exact (exec_irqEn n s).trans (withChannel_of_lt hn _)
  case setRefused => exact (exec_setIrq n s).trans (withChannel_refused (Nat.not_lt.2 hn) _)
  case testRefused => exact (exec_irqEn n s).trans (withChannel_refused (Nat.not_lt.2 hn) _)

/-- Settles O21: HASIRQ replies with the derived flag, and DONE is a store of channel `n` alone. -/
theorem interruptLevelAndDone : Obligations.InterruptLevelAndDone := by
  unfold Obligations.InterruptLevelAndDone
  intro n s
  refine ⟨rfl, fun hn => ?done, fun hn => (exec_doneCh n s).trans (withChannel_refused (Nat.not_lt.2 hn) _)⟩
  case done => exact setsChannel_of_exec_eq ((exec_doneCh n s).trans (withChannel_of_lt hn _))

end Sys2Proof.Machine
end

section
/-! The polygons of the assembler (spec/42_gpu_polygon.md): what `BEGIN`, `ADD`, `READY` and `DRAW` answer, and which word of
the stream each entry of the decoded arrays is. -/

namespace Sys2Proof.Machine

/-! ## The operations of the assembler -/

theorem exec_beginPrim (w0 : Word) (ctx : DrawCtx) (s : State) : exec (.beginPrim w0 ctx) s = gpaBegin w0 ctx s := rfl

theorem exec_addWord (w : Word) (s : State) : exec (.addWord w) s = gpaAdd w s := rfl

theorem exec_ready (s : State) : exec .ready s = gpaReady s := rfl

theorem exec_draw (s : State) : exec .draw s = gpaDraw s := rfl

theorem gpaAdd_full {e : Nat} {s : State} (he : expectedOf s.gpa.prim = some e) (hfull : e ≤ s.gpa.buf.length) (w : Word) :
    gpaAdd w s = .refused .addWhenReady := by
  simp only [gpaAdd, he, if_neg (Nat.not_lt.2 hfull)]

theorem gpaDraw_notReady {e : Nat} {s : State} (he : expectedOf s.gpa.prim = some e) (hlen : s.gpa.buf.length ≠ e) :
    gpaDraw s = .refused .drawNotReady := by
  unfold gpaDraw
  cases hprim : s.gpa.prim with
  | none => simp [hprim, expectedOf] at he
  | polygon p =>
    obtain rfl : p.expected = e := by simpa [hprim, expectedOf] using he
    exact if_neg hlen
  | rectangle r =>
    obtain rfl : r.expected = e := by simpa [hprim, expectedOf] using he
    exact if_neg hlen

theorem gpaAdd_noPrimitive {s : State} (hprim : s.gpa.prim = .none) (w : Word) : gpaAdd w s = .refused .noPrimitive := by
  simp only [gpaAdd, hprim, expectedOf]

theorem gpaReady_noPrimitive {s : State} (hprim : s.gpa.prim = .none) : gpaReady s = .refused .noPrimitive := by
  simp only [gpaReady, hprim, expectedOf]

theorem gpaDraw_noPrimitive {s : State} (hprim : s.gpa.prim = .none) : gpaDraw s = .refused .noPrimitive := by
  simp only [gpaDraw, hprim]

/-- Settles O27: the refusals are the other arms of the two operations. -/
theorem addAppendsOrIsRefused : Obligations.AddAppendsOrIsRefused := by
  unfold Obligations.AddAppendsOrIsRefused
  intro w s
  refine ⟨?append, ?full, ?notReady, ?noPrimitive⟩
  case append => exact fun e he hlt => gpaAdd_eq_next.2 ⟨e, he, hlt, rfl⟩
  case full => exact fun e he hfull => gpaAdd_full he hfull w
  case notReady => exact fun e he hlen => gpaDraw_notReady he hlen
  case noPrimitive => exact fun hprim => ⟨gpaAdd_noPrimitive hprim w, gpaDraw_noPrimitive hprim⟩

/-- Settles O28: the reply is the comparison of the two counts. -/
theorem readyComparesCounts : Obligations.ReadyComparesCounts := by
  unfold Obligations.ReadyComparesCounts
  exact fun s => ⟨fun e he => gpaReady_eq_next.2 ⟨e, he, rfl⟩, gpaReady_noPrimitive⟩

/-- Settles O25: the polygon is that of the word and the captured part of the context, whatever stood before. -/
theorem beginPolygonFixesFlags : Obligations.BeginPolygon := by
  unfold Obligations.BeginPolygon
  intro w0 ctx s hclass
  have hpolygon : isPolygonWord w0 = true := beq_iff_eq.2 hclass
  exact ⟨beginPolygon w0 ctx.toPoly, beginPolygon_shaped w0 ctx.toPoly, rfl, rfl, rfl, rfl, rfl, rfl, rfl,
    gpaBegin_eq_next.2 (.inl ⟨hpolygon, rfl⟩)⟩

/-! ## A second draw (R227, spec/43_gpu_rectangle.md R252) -/

/-- A polygon finds the arrays it has just decoded, and a rectangle decodes nothing. -/
theorem gpaDraw_again {s t : State} (h : gpaDraw s = .next t) :
    ∃ ts, t.toRenderer = s.toRenderer ++ ts ∧ gpaDraw t = .next { t with toRenderer := t.toRenderer ++ ts } := by
  obtain ⟨p, _, hlen, rfl⟩ | ⟨r, hprim, hlen, rfl⟩ := gpaDraw_eq_next.1 h
  · exact ⟨_, rfl, gpaDraw_eq_next.2 (.inl ⟨_, rfl, hlen, rfl⟩)⟩
  · exact ⟨_, rfl, gpaDraw_eq_next.2 (.inr ⟨r, hprim, hlen, rfl⟩)⟩

/-- Settles O31 by `gpaDraw_again`. -/
theorem drawAgainEmitsAgain : Obligations.DrawAgainEmitsAgain := by
  unfold Obligations.DrawAgainEmitsAgain
  exact fun _ _ => gpaDraw_again

/-! ## The decoded arrays, read by the table of spec/30_encoding.md R120 -/

/-- Words of the stream per vertex: a colour if Gouraud, a position, texture coordinates if textured (R217). -/
def wordsPerVertex (gouraud textured : Bool) : Nat := gouraud.toNat + 1 + textured.toNat

theorem getD_drop (ws : List Word) (n i : Nat) : (ws.drop n).getD i 0 = ws.getD (n + i) 0 := by
  simp only [List.getD_eq_getElem?_getD, List.getElem?_drop]

/-- One vertex of the walk, and the walk over the words after it. -/
theorem walkVertices_succ (gouraud textured : Bool) (c : BitVec 24) (k : Nat) (ws : List Word) :
    walkVertices gouraud textured c (k + 1) ws =
      let rest := walkVertices gouraud textured c k (ws.drop (wordsPerVertex gouraud textured))
      { color := (if gouraud then colorOf (ws.getD 0 0) else c) :: rest.color,
        pos := ws.getD gouraud.toNat 0 :: rest.pos,
        uvw := (if textured then [ws.getD (gouraud.toNat + 1) 0] else []) ++ rest.uvw } := by
  cases gouraud <;> cases textured <;>
    simp only [walkVertices, wordsPerVertex, ← List.drop_one, List.headD_eq_getD, getD_drop, List.drop_drop, if_true,
      Bool.false_eq_true, if_false] <;> rfl

/-- Entry `i` of each array of the walk (R217 to R219). -/
theorem walkVertices_getElem? {k i : Nat} (hi : i < k) (gouraud textured : Bool) (c : BitVec 24) (ws : List Word) :
    (walkVertices gouraud textured c k ws).color[i]? =
        some (if gouraud then colorOf (ws.getD (wordsPerVertex gouraud textured * i) 0) else c) ∧
      (walkVertices gouraud textured c k ws).pos[i]? =
        some (ws.getD (wordsPerVertex gouraud textured * i + gouraud.toNat) 0) ∧
      (textured = true →
        (walkVertices gouraud textured c k ws).uvw[i]? =
          some (ws.getD (wordsPerVertex gouraud textured * i + (gouraud.toNat + 1)) 0)) := by
  induction k generalizing i ws with
  | zero => exact absurd hi (Nat.not_lt_zero i)
  | succ k ih =>
    rw [walkVertices_succ]
    cases i with
    | zero => simp +contextual
    | succ i =>
      obtain ⟨hcolor, hpos, huvw⟩ := ih (Nat.lt_of_succ_lt_succ hi) (ws.drop (wordsPerVertex gouraud textured))
      have hnext : wordsPerVertex gouraud textured * (i + 1) =
          wordsPerVertex gouraud textured + wordsPerVertex gouraud textured * i := by rw [Nat.mul_succ, Nat.add_comm]
      simp only [getD_drop, ← Nat.add_assoc, ← hnext] at hcolor hpos huvw
      refine ⟨hcolor, hpos, fun htextured => ?_⟩
      rw [htextured] at huvw ⊢
      exact huvw rfl

/-- Where `SetupArrays` starts the walk: a flat polygon has consumed its first word (R217). -/
theorem walkStart_getD (gouraud : Bool) (buf : List Word) (j : Nat) :
    (if gouraud then buf else buf.tail).getD j 0 = buf.getD ((!gouraud).toNat + j) 0 := by
  cases gouraud
  · rw [← List.drop_one]; exact getD_drop buf 1 j
  · simp

/-- The walk of a polygon over its own stream, before the colours of a raw-textured one are overridden (R217, R220). -/
def polygonWalk (p : Polygon) (buf : List Word) : PolyArrays :=
  walkVertices p.gouraud p.textured (colorOf (buf.headD 0)) p.vc (if p.gouraud then buf else buf.tail)

theorem setupArrays_eq_polygonWalk (p : Polygon) (buf : List Word) :
    setupArrays p buf =
      { polygonWalk p buf with
        color := if p.textured && p.raw then (polygonWalk p buf).color.map (fun _ => neutralGray) else (polygonWalk p buf).color } := by
  simp only [setupArrays, polygonWalk]
  cases p.textured && p.raw <;> rfl

theorem polygonWalk_color {p : Polygon} {i : Nat} (hi : i < p.vc) (buf : List Word) :
    (polygonWalk p buf).color[i]? = some (colorOf (buf.getD (colorIndex p.gouraud p.textured i) 0)) := by
  refine (walkVertices_getElem? hi _ _ _ _).1.trans ?_
  cases p.gouraud
  · rw [List.headD_eq_getD]; rfl
  · cases p.textured <;> simp [colorIndex, wordsPerVertex]

theorem polygonWalk_pos {p : Polygon} {i : Nat} (hi : i < p.vc) (buf : List Word) :
    (polygonWalk p buf).pos[i]? = some (buf.getD (posIndex p.gouraud p.textured i) 0) := by
  have hindex : (!p.gouraud).toNat + (wordsPerVertex p.gouraud p.textured * i + p.gouraud.toNat) = posIndex p.gouraud p.textured i := by
    cases p.gouraud <;> cases p.textured <;> simp [wordsPerVertex, posIndex, Nat.add_comm]
  rw [← hindex, ← walkStart_getD]
  exact (walkVertices_getElem? hi _ _ _ _).2.1

theorem polygonWalk_uvw {p : Polygon} {i : Nat} (hi : i < p.vc) (htextured : p.textured = true) (buf : List Word) :
    (polygonWalk p buf).uvw[i]? = some (buf.getD (uvIndex p.gouraud i) 0) := by
  have hindex :
      (!p.gouraud).toNat + (wordsPerVertex p.gouraud p.textured * i + (p.gouraud.toNat + 1)) = uvIndex p.gouraud i := by
    rw [htextured]
    cases p.gouraud
    · show 1 + (2 * i + 1) = 2 + 2 * i
      omega
    · show 0 + (3 * i + 2) = 3 * i + 2
      omega
  rw [← hindex, ← walkStart_getD]
  exact (walkVertices_getElem? hi _ _ _ _).2.2 htextured

theorem setupArrays_pos {p : Polygon} {i : Nat} (hi : i < p.vc) (buf : List Word) :
    (setupArrays p buf).pos.getD i 0 = buf.getD (posIndex p.gouraud p.textured i) 0 := by
  rw [setupArrays_eq_polygonWalk, List.getD_eq_getElem?_getD, polygonWalk_pos hi, Option.getD_some]

theorem setupArrays_uvw {p : Polygon} {i : Nat} (hi : i < p.vc) (htextured : p.textured = true) (buf : List Word) :
    (setupArrays p buf).uvw.getD i 0 = buf.getD (uvIndex p.gouraud i) 0 := by
  rw [setupArrays_eq_polygonWalk, List.getD_eq_getElem?_getD, polygonWalk_uvw hi htextured, Option.getD_some]

/-- Raw texture makes every colour neutral gray (R220). -/
theorem setupArrays_color {p : Polygon} {i : Nat} (hi : i < p.vc) (buf : List Word) :
    (setupArrays p buf).color.getD i 0 =
      if p.textured ∧ p.raw then 0x808080 else (buf.getD (colorIndex p.gouraud p.textured i) 0).extractLsb' 0 24 := by
  simp only [setupArrays_eq_polygonWalk, List.getD_eq_getElem?_getD, Bool.and_eq_true]
  split
  · rw [List.getElem?_map, polygonWalk_color hi]; rfl
  · rw [polygonWalk_color hi]; rfl

/-! ## The records (R221 to R226) -/

/-- A field of a field of a word is a field of the word. -/
theorem extractLsb'_extractLsb' {w m n : Nat} (x : BitVec w) (a b : Nat) (h : b + n ≤ m) :
    (x.extractLsb' a m).extractLsb' b n = x.extractLsb' (a + b) n := by
  apply BitVec.eq_of_getLsbD_eq
  intro i hi
  have hm : b + i < m := by omega
  simp [hi, hm, Nat.add_assoc]

theorem uvU_eq_append (w : Word) : uvU w = 0#8 ++ w.extractLsb' 0 8 := BitVec.setWidth_eq_append (by decide)

theorem uvV_eq_append (w : Word) : uvV w = 0#8 ++ w.extractLsb' 8 8 := BitVec.setWidth_eq_append (by decide)

theorem pageTexMode_attachment (w : Word) : pageTexMode (attachment w) = w.extractLsb' 23 2 :=
  extractLsb'_extractLsb' w 16 7 (by decide)

theorem pageBlend_attachment (w : Word) : pageBlend (attachment w) = w.extractLsb' 21 2 :=
  extractLsb'_extractLsb' w 16 5 (by decide)

theorem polygonDither_eq (p : Polygon) : polygonDither p = (p.ctx.ditherEnable && !(!p.gouraud && p.textured && p.raw)) := by
  unfold polygonDither
  cases p.gouraud <;> simp

/-- The record of a vertex is the one its words give by the table of R120 (R217 to R225). -/
theorem polygonVertex_setupArrays {p : Polygon} (hvc : 2 ≤ p.vc) {i : Nat} (hi : i < p.vc) (buf : List Word) :
    polygonVertex p (setupArrays p buf) i = streamVertex p buf i := by
  have hclut : 0 < p.vc := Nat.lt_of_lt_of_le Nat.two_pos hvc
  have hpage : 1 < p.vc := hvc
  cases htextured : p.textured with
  | false =>
    simp only [polygonVertex, streamVertex, setupArrays_pos hi, setupArrays_color hi, polygonDither_eq, polygonClut, polygonPage,
      polygonTexMode, polygonTransMode, htextured, Bool.false_eq_true, if_false]
    rfl
  | true =>
    simp only [polygonVertex, streamVertex, setupArrays_pos hi, setupArrays_color hi, setupArrays_uvw hi htextured,
      setupArrays_uvw hclut htextured, setupArrays_uvw hpage htextured, polygonDither_eq, polygonClut, polygonPage, polygonTexMode,
      polygonTransMode, pageTexMode_attachment, pageBlend_attachment, uvU_eq_append, uvV_eq_append, htextured, if_true]
    rfl

/-- The triangles of a polygon are the strip of its vertices (R226). -/
theorem trianglesOf_eq_strip (v : Nat → VertexInfo) (quad : Bool) :
    trianglesOf v quad = strip ((List.range (if quad then 4 else 3)).map v) := by
  cases quad <;> rfl

theorem trianglesOf_polygonVertex {p : Polygon} (hp : p.shaped) (buf : List Word) :
    trianglesOf (polygonVertex p (setupArrays p buf)) p.quad =
      strip ((List.range (if p.quad then 4 else 3)).map (streamVertex p buf)) := by
  obtain ⟨hvc, _⟩ := hp
  have htwo : 2 ≤ p.vc := by rw [hvc]; split <;> decide
  rw [trianglesOf_eq_strip, ← hvc]
  exact congrArg strip (List.map_congr_left fun i hi => polygonVertex_setupArrays htwo (List.mem_range.1 hi) buf)

/-- Settles O29: the draw decodes the stream, and each record is that of the words of the table. -/
theorem drawPolygonEmitsStreamVertices : Obligations.DrawPolygonEmitsStreamVertices := by
  unfold Obligations.DrawPolygonEmitsStreamVertices
  intro p s hprim hshaped hdecoded hlen
  have hdraw := gpaDraw_eq_next.2 (.inl ⟨p, hprim, hlen, rfl⟩)
  rw [hdecoded, Option.getD_none, trianglesOf_polygonVertex hshaped] at hdraw
  exact ⟨_, setupArrays p s.gpa.buf, hdraw, rfl, rfl, rfl, rfl, rfl, rfl, rfl, rfl⟩

end Sys2Proof.Machine
end

section
/-! The polygon opcodes as whole streams (spec/42_gpu_polygon.md R410 to R441): the command byte fixes the polygon, and the words after it
fix the records. -/

namespace Sys2Proof.Machine

/-! ## The command byte -/

/-- The polygon a command byte begins: its flags are bits 4 to 0 (spec/30_encoding.md R112). -/
def opcodePolygon (gouraud quad textured semi raw : Bool) (ctx : PolyCtx) : Polygon :=
  { gouraud := gouraud, quad := quad, vc := if quad then 4 else 3, textured := textured, semi := semi, raw := raw,
    expected := polygonExpected (if quad then 4 else 3) textured gouraud, ctx := ctx, decoded := none }

/-- The command byte of a polygon opcode (spec/30_encoding.md R112): the class, then one bit per flag. -/
def polygonOpcode (gouraud quad textured semi raw : Bool) : Byte :=
  1#3 ++ BitVec.ofBool gouraud ++ BitVec.ofBool quad ++ BitVec.ofBool textured ++ BitVec.ofBool semi ++ BitVec.ofBool raw

theorem polygonOpcode_flags (gouraud quad textured semi raw : Bool) :
    (polygonOpcode gouraud quad textured semi raw).getLsbD 4 = gouraud ∧
      (polygonOpcode gouraud quad textured semi raw).getLsbD 3 = quad ∧
      (polygonOpcode gouraud quad textured semi raw).getLsbD 2 = textured ∧
      (polygonOpcode gouraud quad textured semi raw).getLsbD 1 = semi ∧
      (polygonOpcode gouraud quad textured semi raw).getLsbD 0 = raw := by
  revert gouraud quad textured semi raw
  decide

theorem beginPolygon_polygonOpcode (gouraud quad textured semi raw : Bool) (c0 : BitVec 24) (ctx : PolyCtx) :
    beginPolygon (cmdWord (polygonOpcode gouraud quad textured semi raw) c0) ctx =
      opcodePolygon gouraud quad textured semi raw ctx := by
  obtain ⟨hgouraud, hquad, htextured, hsemi, hraw⟩ := polygonOpcode_flags gouraud quad textured semi raw
  have hflag : ∀ k, (cmdWord (polygonOpcode gouraud quad textured semi raw) c0).getLsbD (24 + k) =
      (polygonOpcode gouraud quad textured semi raw).getLsbD k := fun k => by
    rw [cmdWord_flag _ _ (Nat.le_add_right 24 k), Nat.add_sub_cancel_left]
  simp only [beginPolygon, opcodePolygon, hflag 4, hflag 3, hflag 2, hflag 1, hflag 0, hgouraud, hquad, htextured, hsemi, hraw]

theorem isPolygonWord_polygonOpcode (gouraud quad textured semi raw : Bool) (c0 : BitVec 24) :
    isPolygonWord (cmdWord (polygonOpcode gouraud quad textured semi raw) c0) = true := by
  rw [isPolygonWord_cmdWord]
  revert gouraud quad textured semi raw
  decide

/-! ## The records of a stream -/

/-- The colour of vertex `i` before raw texture overrides it: the command word's for vertex 0 and for every flat vertex (R218, R219). -/
def vertexColor (gouraud textured : Bool) (c0 : BitVec 24) (buf : List Word) (i : Nat) : BitVec 24 :=
  if gouraud && i != 0 then (buf.getD (colorIndex gouraud textured i) 0).extractLsb' 0 24 else c0

theorem extractLsb'_getD_colorIndex (gouraud textured : Bool) (op : Byte) (c0 : BitVec 24) (ws : List Word) (i : Nat) :
    ((cmdWord op c0 :: ws).getD (colorIndex gouraud textured i) 0).extractLsb' 0 24 =
      vertexColor gouraud textured c0 (cmdWord op c0 :: ws) i := by
  unfold vertexColor
  split
  · rfl
  · next hfirst =>
    have hindex : colorIndex gouraud textured i = 0 := by
      cases gouraud with
      | false => rfl
      | true =>
        obtain rfl : i = 0 := by simpa using hfirst
        cases textured <;> rfl
    rw [hindex, List.getD_cons_zero, cmdWord_color]

/-- The record of vertex `i` of a polygon opcode from the words of its stream: raw texture makes it neutral gray, and a flat raw-textured
polygon is not dithered (R220 to R225). -/
def opcodeVertex (gouraud textured semi raw : Bool) (ctx : PolyCtx) (c0 : BitVec 24) (buf : List Word) (i : Nat) : VertexInfo :=
  let pos := buf.getD (posIndex gouraud textured i) 0
  let color := vertexColor gouraud textured c0 buf i
  let pageWord := buf.getD (uvIndex gouraud 1) 0
  if textured then
    texturedVertex pos (buf.getD (uvIndex gouraud i) 0) (if raw then 0x808080 else color) (buf.getD (uvIndex gouraud 0) 0) pageWord
      (if !gouraud && raw then false else ctx.ditherEnable) (if semi then pageBlendOf pageWord else .solid)
  else plainVertex pos color ctx.ditherEnable (if semi then .blend ctx.globalBlend else .solid)

theorem streamVertex_opcodePolygon (gouraud quad textured semi raw : Bool) (ctx : PolyCtx) (op : Byte) (c0 : BitVec 24)
    (ws : List Word) (i : Nat) :
    streamVertex (opcodePolygon gouraud quad textured semi raw ctx) (cmdWord op c0 :: ws) i =
      opcodeVertex gouraud textured semi raw ctx c0 (cmdWord op c0 :: ws) i := by
  simp only [streamVertex, opcodeVertex, opcodePolygon, extractLsb'_getD_colorIndex]
  cases textured with
  | false => simp only [Bool.false_eq_true, if_false, false_and, Bool.and_false, Bool.false_and, Bool.not_false, Bool.and_true] <;> rfl
  | true => cases gouraud <;> cases raw <;> simp

/-- A polygon opcode whose byte spells its flags, and whose stream has as many words as they fix, draws the polygon of its flags. -/
theorem drawsPolygon_of_exec {i : Instr} {s : State} {gouraud quad textured semi raw : Bool} {ctx : PolyCtx} {op : Byte}
    {c0 : BitVec 24} {ws : List Word} (hop : op = polygonOpcode gouraud quad textured semi raw)
    (hexec : exec i s = runPrimitive ctx.toDraw (cmdWord op c0) ws s)
    (hlen : ws.length + 1 = polygonExpected (if quad then 4 else 3) textured gouraud) :
    drawsPolygon i s gouraud quad textured semi raw ctx (cmdWord op c0 :: ws)
      (strip ((List.range (if quad then 4 else 3)).map (opcodeVertex gouraud textured semi raw ctx c0 (cmdWord op c0 :: ws)))) := by
  have hbegin : beginPolygon (cmdWord op c0) ctx.toDraw.toPoly = opcodePolygon gouraud quad textured semi raw ctx :=
    hop ▸ beginPolygon_polygonOpcode gouraud quad textured semi raw c0 ctx
  have hrun := runPrimitive_polygon (ctx := ctx.toDraw) (ws := ws) s
    (hop ▸ isPolygonWord_polygonOpcode gouraud quad textured semi raw c0 : isPolygonWord (cmdWord op c0) = true) (hbegin ▸ hlen)
  have hshaped : (opcodePolygon gouraud quad textured semi raw ctx).shaped := ⟨rfl, rfl⟩
  rw [hbegin, trianglesOf_polygonVertex hshaped,
    List.map_congr_left fun i _ => streamVertex_opcodePolygon gouraud quad textured semi raw ctx op c0 ws i] at hrun
  refine ⟨_, setupArrays (opcodePolygon gouraud quad textured semi raw ctx) (cmdWord op c0 :: ws), hexec.trans hrun, ?_, rfl, rfl, rfl,
    rfl, rfl, rfl, rfl⟩
  rw [List.length_cons, hlen]
  rfl

/-! ## The statements -/

/-- Settles O32: the byte of each opcode spells its flags, and its words are a position word per vertex. -/
theorem flatUntexturedPolygonsDraw : Obligations.FlatUntexturedPolygonsDraw := by
  unfold Obligations.FlatUntexturedPolygonsDraw
  intro ctx c0 p0 p1 p2 p3 s
  refine ⟨?_, ?_, ?_, ?_, ?_, ?_, ?_, ?_⟩
  all_goals exact drawsPolygon_of_exec rfl rfl rfl

/-- Settles O33: the byte of each opcode spells its flags, and its words are a position and a UV word per vertex. -/
theorem flatTexturedPolygonsDraw : Obligations.FlatTexturedPolygonsDraw := by
  unfold Obligations.FlatTexturedPolygonsDraw
  intro ctx c0 p0 t0 p1 t1 p2 t2 p3 t3 s
  refine ⟨?_, ?_, ?_, ?_, ?_, ?_, ?_, ?_⟩
  all_goals exact drawsPolygon_of_exec rfl rfl rfl

/-- Settles O34: the byte of each opcode spells its flags, and its words are a colour and a position word per vertex. -/
theorem gouraudUntexturedPolygonsDraw : Obligations.GouraudUntexturedPolygonsDraw := by
  unfold Obligations.GouraudUntexturedPolygonsDraw
  intro ctx c0 p0 c1 p1 c2 p2 c3 p3 s
  refine ⟨?_, ?_, ?_, ?_, ?_, ?_, ?_, ?_⟩
  all_goals exact drawsPolygon_of_exec rfl rfl rfl

/-- Settles O35: the byte of each opcode spells its flags, and its words are a colour, a position and a UV word per vertex. -/
theorem gouraudTexturedPolygonsDraw : Obligations.GouraudTexturedPolygonsDraw := by
  unfold Obligations.GouraudTexturedPolygonsDraw
  intro ctx c0 p0 t0 c1 p1 t1 c2 p2 t2 c3 p3 t3 s
  refine ⟨?_, ?_, ?_, ?_, ?_, ?_, ?_, ?_⟩
  all_goals exact drawsPolygon_of_exec rfl rfl rfl

end Sys2Proof.Machine
end

section
/-! The rectangles of the assembler (spec/43_gpu_rectangle.md): which rectangle `BEGIN` makes of its word, and which corners `DRAW`
emits. -/

namespace Sys2Proof.Machine

/-! ## The size class (spec/30_encoding.md R113) -/

/-- The code of a size class in bits 28:27 of a rectangle's command word. -/
def sizeBits : SizeClass → BitVec 2
  | .variable => 0#2
  | .one => 1#2
  | .eight => 2#2
  | .sixteen => 3#2

theorem sizeClassOf_eq_iff (w0 : Word) (size : SizeClass) : sizeClassOf w0 = size ↔ w0.extractLsb' 27 2 = sizeBits size := by
  unfold sizeClassOf
  generalize w0.extractLsb' 27 2 = bits
  cases size <;> revert bits <;> decide

/-! ## Begin (R240) -/

theorem gpaBegin_rectangle {w0 : Word} (hclass : w0.extractLsb' 29 3 = 3) (ctx : DrawCtx) (s : State) :
    gpaBegin w0 ctx s = .next (s.setGpa { prim := .rectangle (beginRectangle w0 ctx), buf := [] }) := by
  refine gpaBegin_eq_next.2 (.inr ⟨?_, beq_iff_eq.2 hclass, rfl⟩)
  rw [isPolygonWord, hclass]
  rfl

theorem gpaBegin_otherClass {w0 : Word} (hpolygon : w0.extractLsb' 29 3 ≠ 1) (hrectangle : w0.extractLsb' 29 3 ≠ 3) (ctx : DrawCtx)
    (s : State) : gpaBegin w0 ctx s = .refused (.notAPrimitive w0) := by
  have hp : isPolygonWord w0 = false := beq_eq_false_iff_ne.2 hpolygon
  have hr : isRectangleWord w0 = false := beq_eq_false_iff_ne.2 hrectangle
  simp only [gpaBegin, hp, hr, Bool.false_eq_true, if_false]

/-- Settles O26: the rectangle is that of the word and the whole context, and a word of no class of the assembler is refused. -/
theorem beginRectangleOrRefuse : Obligations.BeginRectangleOrRefuse := by
  unfold Obligations.BeginRectangleOrRefuse
  intro w0 ctx s
  refine ⟨fun hclass => ?rectangle, fun hpolygon hrectangle => gpaBegin_otherClass hpolygon hrectangle ctx s⟩
  refine ⟨beginRectangle w0 ctx, beginRectangle_shaped w0 ctx, ?size, rfl, rfl, rfl, rfl, gpaBegin_rectangle hclass ctx s⟩
  refine (sizeClassOf_eq_iff w0 _).2 ?_
  generalize w0.extractLsb' 27 2 = bits
  revert bits
  decide

/-! ## The corners (R244 to R250) -/

theorem coordinate11_eq_toInt (f : BitVec 11) : coordinate11 f = f.toInt := by
  rw [BitVec.toInt_eq_msb_cond, BitVec.msb_eq_getLsbD_last]
  rfl

theorem rectX_eq_coordinate11 (w : Word) : rectX w = BitVec.ofInt 16 (coordinate11 (w.extractLsb' 0 11)) := by
  rw [coordinate11_eq_toInt]
  rfl

theorem rectY_eq_coordinate11 (w : Word) : rectY w = BitVec.ofInt 16 (coordinate11 (w.extractLsb' 16 11)) := by
  rw [coordinate11_eq_toInt]
  rfl

/-- Only a textured raw rectangle asks the open parameter for its colour (R245, R249). -/
theorem rectangleColor_eq (r : Rectangle) (buf : List Word) :
    rectangleColor r buf =
      if r.textured ∧ r.raw then rawRectangleColor ((buf.getD 0 0).extractLsb' 0 24) else (buf.getD 0 0).extractLsb' 0 24 := by
  simp only [rectangleColor, rawRectangleColor, List.headD_eq_getD, Bool.and_eq_true, ite_and]
  rfl

/-- The UV word of a rectangle's stream, where there is one. -/
def rectangleUv (r : Rectangle) (buf : List Word) : Option Word := if r.textured then some (buf.getD 2 0) else none

/-- Corners 1 and 3 lie at the far `x`, corners 2 and 3 at the far `y`. -/
theorem rectangleVertex_eq_cornerRecord (r : Rectangle) (buf : List Word) (i : Nat) :
    rectangleVertex r buf i =
      cornerRecord r.ctx (buf.getD 1 0) (rectangleColor r buf) (rectangleUv r buf) r.semi
        (if i = 1 ∨ i = 3 then (rectangleSize r buf).1 else 0) (if i = 2 ∨ i = 3 then (rectangleSize r buf).2 else 0) := by
  simp only [rectangleVertex, cornerRecord, rectangleUv, rectX_eq_coordinate11, rectY_eq_coordinate11]
  cases r.textured with
  | false => rfl
  | true =>
    simp only [if_true, uvU_eq_append, uvV_eq_append]
    rfl

/-- The triangles of a rectangle are those of its four corners (R246, R247, R251). -/
theorem trianglesOf_rectangleVertex (r : Rectangle) (buf : List Word) :
    trianglesOf (rectangleVertex r buf) true =
      rectangleTriangles r.ctx (buf.getD 1 0) (rectangleColor r buf) (rectangleUv r buf) r.semi (rectangleSize r buf).1
        (rectangleSize r buf).2 := by
  simp only [trianglesOf, rectangleVertex_eq_cornerRecord]
  rfl

/-- Settles O30: a ready rectangle has nothing to decode, so its draw only emits the triangles of its corners. -/
theorem drawRectangleEmitsTwoTriangles : Obligations.DrawRectangleEmitsTwoTriangles := by
  unfold Obligations.DrawRectangleEmitsTwoTriangles
  intro r s hprim _ hlen
  have hdraw := gpaDraw_eq_next.2 (.inr ⟨r, hprim, hlen, rfl⟩)
  rw [trianglesOf_rectangleVertex, rectangleColor_eq] at hdraw
  refine ⟨_, hdraw, rfl, ?triangles, rfl, rfl, rfl, rfl, rfl, rfl⟩
  rw [State.emit_toRenderer, rectangleSize]
  cases r.size <;> rfl

end Sys2Proof.Machine
end

section
/-! The rectangle opcodes as whole streams (spec/43_gpu_rectangle.md R442 to R473): the command byte fixes the rectangle, and the words
after it fix the corners. -/

namespace Sys2Proof.Machine

/-! ## The command byte -/

/-- The rectangle a command byte begins: its size class and flags are bits 4 to 0 (spec/30_encoding.md R113). -/
def opcodeRectangle (size : SizeClass) (textured semi raw : Bool) (ctx : DrawCtx) : Rectangle :=
  { size := size, textured := textured, semi := semi, raw := raw, expected := rectangleExpected size textured, ctx := ctx }

/-- The command byte of a rectangle opcode (spec/30_encoding.md R113): the class, the size class, then one bit per flag. -/
def rectangleOpcode (size : SizeClass) (textured semi raw : Bool) : Byte :=
  3#3 ++ sizeBits size ++ BitVec.ofBool textured ++ BitVec.ofBool semi ++ BitVec.ofBool raw

theorem rectangleOpcode_fields (size : SizeClass) (textured semi raw : Bool) :
    (rectangleOpcode size textured semi raw).extractLsb' 5 3 = 3#3 ∧
      (rectangleOpcode size textured semi raw).extractLsb' 3 2 = sizeBits size ∧
      (rectangleOpcode size textured semi raw).getLsbD 2 = textured ∧
      (rectangleOpcode size textured semi raw).getLsbD 1 = semi ∧
      (rectangleOpcode size textured semi raw).getLsbD 0 = raw := by
  cases size <;> revert textured semi raw <;> decide

theorem beginRectangle_rectangleOpcode (size : SizeClass) (textured semi raw : Bool) (c0 : BitVec 24) (ctx : DrawCtx) :
    beginRectangle (cmdWord (rectangleOpcode size textured semi raw) c0) ctx = opcodeRectangle size textured semi raw ctx := by
  obtain ⟨_, hsizeBits, htextured, hsemi, hraw⟩ := rectangleOpcode_fields size textured semi raw
  have hsize : sizeClassOf (cmdWord (rectangleOpcode size textured semi raw) c0) = size := by
    rw [sizeClassOf_eq_iff, cmdWord_size, hsizeBits]
  simp only [beginRectangle, opcodeRectangle, hsize, cmdWord_flag, Nat.reduceLeDiff, Nat.reduceSub, htextured, hsemi, hraw]

theorem class_rectangleOpcode (size : SizeClass) (textured semi raw : Bool) (c0 : BitVec 24) :
    isPolygonWord (cmdWord (rectangleOpcode size textured semi raw) c0) = false ∧
      isRectangleWord (cmdWord (rectangleOpcode size textured semi raw) c0) = true := by
  obtain ⟨hclass, _⟩ := rectangleOpcode_fields size textured semi raw
  rw [isPolygonWord_cmdWord, isRectangleWord_cmdWord, hclass]
  exact ⟨rfl, rfl⟩

/-! ## The triangles of a stream -/

/-- A rectangle opcode whose byte spells its size class and flags, and whose stream has as many words as they fix, draws the rectangle
of that size class and those flags. -/
theorem drawsRectangle_of_exec {i : Instr} {s : State} {size : SizeClass} {textured semi raw : Bool} {ctx : DrawCtx} {op : Byte}
    {c0 : BitVec 24} {ws : List Word} (hop : op = rectangleOpcode size textured semi raw)
    (hexec : exec i s = runPrimitive ctx (cmdWord op c0) ws s) (hlen : ws.length + 1 = rectangleExpected size textured) :
    drawsRectangle i s size textured semi raw ctx (cmdWord op c0 :: ws)
      (rectangleTriangles ctx (ws.getD 0 0) (if textured ∧ raw then rawRectangleColor c0 else c0)
        (rectangleUv (opcodeRectangle size textured semi raw ctx) (cmdWord op c0 :: ws)) semi
        (rectangleSize (opcodeRectangle size textured semi raw ctx) (cmdWord op c0 :: ws)).1
        (rectangleSize (opcodeRectangle size textured semi raw ctx) (cmdWord op c0 :: ws)).2) := by
  subst hop
  obtain ⟨hpolygon, hrectangle⟩ := class_rectangleOpcode size textured semi raw c0
  have hbegin := beginRectangle_rectangleOpcode size textured semi raw c0 ctx
  have hrun := runPrimitive_rectangle (ctx := ctx) (ws := ws) s hpolygon hrectangle (hbegin ▸ hlen)
  rw [hbegin, trianglesOf_rectangleVertex, rectangleColor_eq, List.getD_cons_zero, cmdWord_color] at hrun
  refine ⟨_, hexec.trans hrun, ?_, rfl, rfl, rfl, rfl, rfl, rfl, rfl⟩
  rw [List.length_cons, hlen]
  rfl

/-! ## The statements -/

/-- Settles O36: the byte of each opcode spells size class and flags, and its words are a position and a dimension word. -/
theorem variableUntexturedRectanglesDraw : Obligations.VariableUntexturedRectanglesDraw := by
  unfold Obligations.VariableUntexturedRectanglesDraw
  intro ctx c0 p0 dim s
  refine ⟨?_, ?_, ?_, ?_⟩
  all_goals exact drawsRectangle_of_exec rfl rfl rfl

/-- Settles O37: the byte of each opcode spells size class and flags, and its words are a position, a UV and a dimension word. -/
theorem variableTexturedRectanglesDraw : Obligations.VariableTexturedRectanglesDraw := by
  unfold Obligations.VariableTexturedRectanglesDraw
  intro ctx c0 p0 t0 dim s
  refine ⟨?_, ?_, ?_, ?_⟩
  all_goals exact drawsRectangle_of_exec rfl rfl rfl

/-- Settles O38: the byte of each opcode spells size class and flags, and its one word is a position word. -/
theorem fixedUntexturedRectanglesDraw : Obligations.FixedUntexturedRectanglesDraw := by
  unfold Obligations.FixedUntexturedRectanglesDraw
  intro ctx c0 p0 s
  refine ⟨?_, ?_, ?_, ?_, ?_, ?_, ?_, ?_, ?_, ?_, ?_, ?_⟩
  all_goals exact drawsRectangle_of_exec rfl rfl rfl

/-- Settles O39: the byte of each opcode spells size class and flags, and its words are a position and a UV word. -/
theorem fixedTexturedRectanglesDraw : Obligations.FixedTexturedRectanglesDraw := by
  unfold Obligations.FixedTexturedRectanglesDraw
  intro ctx c0 p0 t0 s
  refine ⟨?_, ?_, ?_, ?_, ?_, ?_, ?_, ?_, ?_, ?_, ?_, ?_⟩
  all_goals exact drawsRectangle_of_exec rfl rfl rfl

end Sys2Proof.Machine
end

section
/-! The exchanges of the pad (spec/44_pad_protocol.md R260 to R298): what each step of either mode answers and what it writes, and
the statements about one exchange. -/

namespace Sys2Proof.Machine

/-! ## One exchange that answers (R260, R266 to R268, R297) -/

/-- The exchange ends in order, with this reply and this pad, and logs nothing. -/
def Pad.Gives (p : Pad) (d resp : Byte) (ack : Bool) (q : Pad) : Prop :=
  p.exchange d = .answer { reply := { resp := resp, ack := ack }, pad := q, log := [] }

theorem answers_of_gives {d resp : Byte} {ack : Bool} {s : State} {q : Pad} (h : s.pad.Gives d resp ack q) :
    answers d s resp ack q :=
  ⟨_, padExchange_eq_next.2 (.inl ⟨_, h, rfl⟩), rfl, rfl, List.append_nil _, rfl, rfl, rfl, rfl, rfl⟩

theorem Pad.endDialogue_pad (p : Pad) (r : Byte) : (p.endDialogue r).pad = ends p := by
  obtain ⟨_, _, _, _, _, _, pendingSwitch, _⟩ := p
  cases pendingSwitch <;> rfl

theorem Pad.Gives.of_advance {p q : Pad} {d r : Byte} (h : p.exchange d = .answer (q.advance r)) : p.Gives d r true (goesOn q) := h

theorem Pad.Gives.of_endDialogue {p q : Pad} {d r : Byte} (h : p.exchange d = .answer (q.endDialogue r)) :
    p.Gives d r false (ends q) := by
  rw [← q.endDialogue_pad r]
  exact h

/-- A data step of Config mode answers `resp`, leaving the pad as `q` but for the step: it goes on, or ends at step 7 (R297). -/
def Pad.GivesData (p : Pad) (d resp : Byte) (q : Pad) : Prop := p.Gives d resp (decide (p.seq ≠ 7)) (nextPad q)

theorem Pad.GivesData.of_finish {p q : Pad} {d r : Byte} (h : p.exchange d = .answer (q.finish r)) (hseq : q.seq = p.seq := by rfl) :
    p.GivesData d r q := by
  unfold Pad.finish at h
  unfold GivesData nextPad
  rw [← hseq]
  split at h
  case isTrue hlast => simpa [hlast] using Gives.of_endDialogue h
  case isFalse hlast => simpa [hlast] using Gives.of_advance h

theorem Pad.gives_disconnected {p : Pad} (h : p.connected = false) (d : Byte) : p.Gives d 0xFF false { p with ack := false } :=
  exchange_disconnected h d

/-! ## Normal mode (R270 to R276) -/

/-- A connected pad in Normal mode at that step. -/
structure Pad.NormalAt (p : Pad) (step : Nat) : Prop where
  connected : p.connected = true
  mode : p.mode = .normal
  seq : p.seq = step

theorem Pad.NormalAt.exchange {p : Pad} {k : Nat} (hp : p.NormalAt k) (hk : k ≤ 7) (d : Byte) :
    p.exchange d = .answer (p.normalStep d) :=
  exchange_normal hp.connected (hp.seq ▸ hk) hp.mode d

theorem Pad.NormalAt.gives_identification {p : Pad} (hp : p.NormalAt 0) (d : Byte) :
    p.Gives d (if p.analog then 0x73 else 0x41) true (goesOn { p with cmd := d }) :=
  .of_advance (by simp [hp.exchange, normalStep, hp.seq])

theorem Pad.NormalAt.gives_ready {p : Pad} (hp : p.NormalAt 1) (d : Byte) : p.Gives d 0x5A true (goesOn p) :=
  .of_advance (by simp [hp.exchange, normalStep, hp.seq])

theorem Pad.NormalAt.gives_abort {p : Pad} (hp : p.NormalAt 2) (hcmd : p.cmd = 0x43) (hdigital : p.analog = false) (d : Byte) :
    p.Gives d 0xFF false { p with seq := 0, ack := false, pendingSwitch := .none } := by
  have hstep : p.normalStep d = p.cutOff [] := by simp [normalStep, hp.seq, hcmd, hdigital]
  exact (hp.exchange (by decide) d).trans (congrArg _ hstep)

theorem Pad.NormalAt.gives_switch {p : Pad} (hp : p.NormalAt 2) (hcmd : p.cmd = 0x43) (hanalog : p.analog = true) :
    p.Gives 0x01 (buttonsLow p.buttons) true (goesOn { p with pendingSwitch := .toConfig }) :=
  .of_advance (by simp [hp.exchange, normalStep, hp.seq, hcmd, hanalog])

theorem Pad.NormalAt.gives_buttonsLow {p : Pad} (hp : p.NormalAt 2) {d : Byte}
    (hcmd : ¬(p.cmd = 0x43 ∧ (p.analog = false ∨ d = 0x01))) : p.Gives d (buttonsLow p.buttons) true (goesOn p) := by
  have hcut : ¬(p.cmd = 0x43#8 ∧ p.analog = false) := fun h => hcmd ⟨h.1, .inl h.2⟩
  have hswitch : ¬(p.cmd = 0x43#8 ∧ d = 0x01#8) := fun h => hcmd ⟨h.1, .inr h.2⟩
  exact .of_advance (by simp [hp.exchange, normalStep, hp.seq, hcut, hswitch])

theorem Pad.NormalAt.gives_buttonsHigh_digital {p : Pad} (hp : p.NormalAt 3) (hdigital : p.analog = false) (d : Byte) :
    p.Gives d (buttonsHigh p.buttons) false (ends p) :=
  .of_endDialogue (by simp [hp.exchange, normalStep, hp.seq, hdigital])

theorem Pad.NormalAt.gives_buttonsHigh_analog {p : Pad} (hp : p.NormalAt 3) (hanalog : p.analog = true) (d : Byte) :
    p.Gives d (buttonsHigh p.buttons) true (goesOn p) :=
  .of_advance (by simp [hp.exchange, normalStep, hp.seq, hanalog])

theorem Pad.NormalAt.gives_rightX {p : Pad} (hp : p.NormalAt 4) (d : Byte) : p.Gives d p.rightX true (goesOn p) :=
  .of_advance (by simp [hp.exchange, normalStep, hp.seq])

theorem Pad.NormalAt.gives_rightY {p : Pad} (hp : p.NormalAt 5) (d : Byte) : p.Gives d p.rightY true (goesOn p) :=
  .of_advance (by simp [hp.exchange, normalStep, hp.seq])

theorem Pad.NormalAt.gives_leftX {p : Pad} (hp : p.NormalAt 6) (d : Byte) : p.Gives d p.leftX true (goesOn p) :=
  .of_advance (by simp [hp.exchange, normalStep, hp.seq])

theorem Pad.NormalAt.gives_leftY {p : Pad} (hp : p.NormalAt 7) (d : Byte) : p.Gives d p.leftY false (ends p) :=
  .of_endDialogue (by simp [hp.exchange, normalStep, hp.seq])

/-! ## Config mode (R280 to R297) -/

theorem Pad.gives_configIdentification {p : Pad} (hconnected : p.connected = true) (hmode : p.mode = .config) (hseq : p.seq = 0)
    (d : Byte) : p.Gives d 0xF3 true (goesOn { p with cmd := d }) :=
  .of_advance (by simp [exchange_config hconnected (by omega) hmode, configStep, hseq])

theorem Pad.gives_configReady {p : Pad} (hconnected : p.connected = true) (hmode : p.mode = .config) (hseq : p.seq = 1) (d : Byte) :
    p.Gives d 0x5A true (goesOn p) :=
  .of_advance (by simp [exchange_config hconnected (by omega) hmode, configStep, hseq])

/-- A connected pad in Config mode at a data step of a dialogue with that command. -/
structure Pad.ConfigData (p : Pad) (cmd : Byte) : Prop where
  connected : p.connected = true
  mode : p.mode = .config
  seq_ge : 2 ≤ p.seq
  seq_le : p.seq ≤ 7
  command : p.cmd = cmd

theorem Pad.ConfigData.exchange {p : Pad} {cmd : Byte} (hp : p.ConfigData cmd) (d : Byte) : p.exchange d = p.configData d := by
  obtain ⟨k, hk⟩ := Nat.exists_eq_add_of_le' hp.seq_ge
  simp [exchange_config hp.connected hp.seq_le hp.mode, configStep, hk]

theorem Pad.ConfigData.seq_cases {p : Pad} {cmd : Byte} (hp : p.ConfigData cmd) :
    p.seq = 2 ∨ p.seq = 3 ∨ p.seq = 4 ∨ p.seq = 5 ∨ p.seq = 6 ∨ p.seq = 7 := by
  have hge := hp.seq_ge
  have hle := hp.seq_le
  omega

theorem Pad.ConfigData.gives_inputs {p : Pad} (hp : p.ConfigData 0x42) (d : Byte) :
    p.GivesData d
      ([buttonsLow p.buttons, buttonsHigh p.buttons, p.rightX, p.rightY, p.leftX, p.leftY].getD (p.seq - 2) 0) p := by
  refine .of_finish ?_
  have hrow : p.configData d = .answer p.config42 := by simp [configData, hp.command]
  rw [hp.exchange, hrow, config42]
  rcases hp.seq_cases with h | h | h | h | h | h <;> rw [h] <;> rfl

theorem Pad.ConfigData.gives_exit {p : Pad} (hp : p.ConfigData 0x43) (hseq : p.seq = 2) :
    p.GivesData 0x00 Config.padExitEcho { p with pendingSwitch := .toNormal } :=
  .of_finish (by simp [hp.exchange, configData, hp.command, config43, hseq])

theorem Pad.ConfigData.gives_noExit {p : Pad} (hp : p.ConfigData 0x43) {d : Byte} (h : ¬(p.seq = 2 ∧ d = 0)) :
    p.GivesData d 0 p :=
  .of_finish (by simp [hp.exchange, configData, hp.command, config43, show ¬(p.seq = 2 ∧ d = 0#8) from h])

theorem Pad.ConfigData.gives_ledStage {p : Pad} (hp : p.ConfigData 0x44) (hseq : p.seq = 2) (d : Byte) :
    p.GivesData d 0 { p with ledPending := d } :=
  .of_finish (by simp [hp.exchange, configData, hp.command, config44, hseq])

theorem Pad.ConfigData.gives_ledCommit {p : Pad} (hp : p.ConfigData 0x44) (hseq : p.seq = 3) :
    p.GivesData 0x02 0 { p with led := p.ledPending } :=
  .of_finish (by simp [hp.exchange, configData, hp.command, config44, hseq])

theorem Pad.ConfigData.gives_ledIdle {p : Pad} (hp : p.ConfigData 0x44) (hstage : p.seq ≠ 2) {d : Byte}
    (hcommit : ¬(p.seq = 3 ∧ d = 2)) : p.GivesData d 0 p :=
  .of_finish (by simp [hp.exchange, configData, hp.command, config44, hstage, show ¬(p.seq = 3 ∧ d = 2#8) from hcommit])

theorem Pad.ConfigData.gives_status {p : Pad} (hp : p.ConfigData 0x45) (d : Byte) :
    p.GivesData d ([1, 2, p.led, 2, 1, 0].getD (p.seq - 2) 0) p := by
  refine .of_finish ?_
  have hrow : p.configData d = .answer p.config45 := by simp [configData, hp.command]
  rw [hp.exchange, hrow, config45]
  rcases hp.seq_cases with h | h | h | h | h | h <;> rw [h] <;> rfl

theorem Pad.ConfigData.gives_infoSelector {p : Pad} (hp : p.ConfigData 0x46) (hseq : p.seq = 2) (d : Byte) :
    p.GivesData d 0 { p with sel := d } :=
  .of_finish (by simp [hp.exchange, configData, hp.command, config46, hseq])

theorem Pad.ConfigData.gives_info {p : Pad} (hp : p.ConfigData 0x46) (hseq : p.seq ≠ 2) (d : Byte) :
    p.GivesData d (info46 p.sel p.seq) p :=
  .of_finish (by simp [hp.exchange, configData, hp.command, config46, hseq])

theorem Pad.ConfigData.gives_constants {p : Pad} (hp : p.ConfigData 0x47) (d : Byte) :
    p.GivesData d ([0, 0, 2, 0, 1, 0].getD (p.seq - 2) 0) p := by
  refine .of_finish ?_
  have hrow : p.configData d = .answer p.config47 := by simp [configData, hp.command]
  rw [hp.exchange, hrow, config47]
  rcases hp.seq_cases with h | h | h | h | h | h <;> rw [h] <;> rfl

theorem Pad.ConfigData.gives_typeSelector {p : Pad} (hp : p.ConfigData 0x4C) (hseq : p.seq = 2) (d : Byte) :
    p.GivesData d 0 { p with sel := d } :=
  .of_finish (by simp [hp.exchange, configData, hp.command, config4C, hseq])

theorem Pad.ConfigData.gives_type {p : Pad} (hp : p.ConfigData 0x4C) (hseq : p.seq ≠ 2) (d : Byte) :
    p.GivesData d (if p.seq = 5 then (if p.sel = 0 then 4 else if p.sel = 1 then 7 else 0) else 0) p := by
  refine .of_finish ?_
  have hrow : p.configData d = .answer (p.config4C d) := by simp [configData, hp.command]
  rw [hp.exchange, hrow, config4C, if_neg hseq]
  split <;> rfl

theorem Pad.ConfigData.gives_rumble {p : Pad} (hp : p.ConfigData 0x4D) (h : p.seq - 2 < 6) (d : Byte) :
    p.GivesData d p.rumble[p.seq - 2] { p with rumble := p.rumble.set (p.seq - 2) d h } := by
  have hrow : p.configData d = .answer (p.config4D d) := by simp [configData, hp.command]
  have hold : p.rumbleAt (p.seq - 2) = p.rumble[p.seq - 2] := by simp [rumbleAt, h]
  have hset : p.setRumble (p.seq - 2) d = { p with rumble := p.rumble.set (p.seq - 2) d h } := by
    simp [setRumble, Vector.setIfInBounds, Vector.set, Array.setIfInBounds, h]
  refine .of_finish ?_
  rw [hp.exchange, hrow, config4D, hold, hset]

/-- The two tables of command 0x46, as lists over the steps 3 to 7 (R291). -/
theorem info46_eq_getD (sel : Byte) (step : Nat) :
    info46 sel step =
      (if sel = 0 then [0, 1, 2, 0, 0x0A] else if sel = 1 then [0, 1, 1, 1, 0x14] else [0, 0, 0, 0, 0]).getD (step - 3) 0 := by
  have hzeros : (List.replicate 5 (0 : Byte)).getD (step - 3) 0 = 0 := List.getElem?_getD_replicate_default_eq ..
  rw [apply_ite (List.getD · (step - 3) 0), apply_ite (List.getD · (step - 3) 0)]
  unfold info46
  congr 2
  exact hzeros.symm

/-! ## The statements about one exchange -/

/-- Settles O40: the arms of an exchange before the mode is looked at, and the last test of the command of a Config-mode dialogue. -/
theorem exchangeDisconnectedOrOverrun : Obligations.ExchangeDisconnectedOrOverrun := by
  unfold Obligations.ExchangeDisconnectedOrOverrun
  intro d s
  refine ⟨?disconnected, ?overrun, ?unknown⟩
  case disconnected => exact fun h => answers_of_gives (Pad.gives_disconnected h d)
  case overrun =>
    exact fun hconnected hseq => padExchange_eq_next.2 (.inl ⟨_, Pad.exchange_overrun hconnected hseq d, rfl⟩)
  case unknown =>
    intro hconnected hmode hseq hcmd
    have hp : s.pad.ConfigData s.pad.cmd := ⟨hconnected, hmode, by omega, by omega, rfl⟩
    have hraise : s.pad.exchange d = .raise (.unrecognizedConfigCommand s.pad.cmd) := by
      simp only [configCommands, List.mem_cons, List.not_mem_nil, or_false, not_or] at hcmd
      obtain ⟨h42, h43, h44, h45, h46, h47, h4C, h4D⟩ := hcmd
      rw [hp.exchange]
      iterate 8 refine (if_neg ‹_›).trans ?_
      exact if_pos hseq
    exact padExchange_eq_next.2 (.inr ⟨_, hraise, rfl⟩)

/-- Settles O41: each row of R277 is the step of Normal mode it names. -/
theorem normalModeTable : Obligations.NormalModeTable := by
  unfold Obligations.NormalModeTable
  intro d s hconnected hmode
  have hat {k : Nat} (hseq : s.pad.seq = k) : s.pad.NormalAt k := ⟨hconnected, hmode, hseq⟩
  refine ⟨?_, ?_, ?_, ?_, ?_, ?_, ?_, ?_, ?_, ?_, ?_⟩
  · exact fun h => answers_of_gives ((hat h).gives_identification d)
  · exact fun h => answers_of_gives ((hat h).gives_ready d)
  · exact fun h hcmd hdigital => answers_of_gives ((hat h).gives_abort hcmd hdigital d)
  · exact fun h hcmd hanalog hd => hd ▸ answers_of_gives ((hat h).gives_switch hcmd hanalog)
  · exact fun h hcmd => answers_of_gives ((hat h).gives_buttonsLow hcmd)
  · exact fun h hdigital => answers_of_gives ((hat h).gives_buttonsHigh_digital hdigital d)
  · exact fun h hanalog => answers_of_gives ((hat h).gives_buttonsHigh_analog hanalog d)
  · exact fun h => answers_of_gives ((hat h).gives_rightX d)
  · exact fun h => answers_of_gives ((hat h).gives_rightY d)
  · exact fun h => answers_of_gives ((hat h).gives_leftX d)
  · exact fun h => answers_of_gives ((hat h).gives_leftY d)

/-- Settles O42: the first two steps do not look at the command. -/
theorem configModeHeader : Obligations.ConfigModeHeader := by
  unfold Obligations.ConfigModeHeader
  intro d s hconnected hmode
  exact ⟨fun hseq => answers_of_gives (Pad.gives_configIdentification hconnected hmode hseq d),
    fun hseq => answers_of_gives (Pad.gives_configReady hconnected hmode hseq d)⟩

/-- Settles O43: command by command, each row of R298 is a data step of that command. -/
theorem configModeTable : Obligations.ConfigModeTable := by
  unfold Obligations.ConfigModeTable
  rintro d s _ hconnected hmode hge hle rfl
  have hdata {cmd : Byte} (hcmd : s.pad.cmd = cmd) : s.pad.ConfigData cmd := ⟨hconnected, hmode, hge, hle, hcmd⟩
  refine ⟨?c42, ?c43, ?c44, ?c45, ?c46, ?c47, ?c4C, ?c4D⟩
  case c42 => exact fun hcmd => answers_of_gives ((hdata hcmd).gives_inputs d)
  case c43 =>
    intro hcmd
    split
    case isTrue h =>
      obtain ⟨hseq, rfl⟩ := h
      exact answers_of_gives ((hdata hcmd).gives_exit hseq)
    case isFalse h => exact answers_of_gives ((hdata hcmd).gives_noExit h)
  case c44 =>
    intro hcmd
    split
    case isTrue hseq => exact answers_of_gives ((hdata hcmd).gives_ledStage hseq d)
    case isFalse hstage =>
      split
      case isTrue h =>
        obtain ⟨hseq, rfl⟩ := h
        exact answers_of_gives ((hdata hcmd).gives_ledCommit hseq)
      case isFalse hcommit => exact answers_of_gives ((hdata hcmd).gives_ledIdle hstage hcommit)
  case c45 => exact fun hcmd => answers_of_gives ((hdata hcmd).gives_status d)
  case c46 =>
    intro hcmd
    split
    case isTrue hseq => exact answers_of_gives ((hdata hcmd).gives_infoSelector hseq d)
    case isFalse hseq => exact answers_of_gives (info46_eq_getD s.pad.sel s.pad.seq ▸ (hdata hcmd).gives_info hseq d)
  case c47 => exact fun hcmd => answers_of_gives ((hdata hcmd).gives_constants d)
  case c4C =>
    intro hcmd
    split
    case isTrue hseq => exact answers_of_gives ((hdata hcmd).gives_typeSelector hseq d)
    case isFalse hseq => exact answers_of_gives ((hdata hcmd).gives_type hseq d)
  case c4D => exact fun hcmd h => answers_of_gives ((hdata hcmd).gives_rumble h d)

end Sys2Proof.Machine
end

section
/-! The dialogues of the pad (spec/44_pad_protocol.md R300 to R305, spec/30_encoding.md R139): a run of exchanges that ends by itself,
the two header steps, and the dialogue of each command as a run of the rows of its table. -/

namespace Sys2Proof.Machine

/-! ## A run of exchanges (R139, R264) -/

/-- Sent these bytes in turn, the pad answers those, acknowledging all but the last, and is left as the second pad: the bytes after
the first acknowledge of 0 are not sent. -/
inductive Pad.Runs : Pad → List Byte → List Byte → Pad → Prop
  | go {p next q : Pad} {d resp : Byte} {ds rs : List Byte} (h : p.Gives d resp true next) (rest : next.Runs ds rs q) :
      p.Runs (d :: ds) (resp :: rs) q
  | stop {p q : Pad} {d resp : Byte} {ds : List Byte} (h : p.Gives d resp false q) : p.Runs (d :: ds) [resp] q

theorem repliesOf_cons {rs : List Byte} (h : rs ≠ []) (r : Byte) : repliesOf (r :: rs) = { resp := r, ack := true } :: repliesOf rs := by
  cases rs
  case nil => exact absurd rfl h
  case cons => rfl

theorem Pad.Runs.replies_ne_nil {p q : Pad} {ds rs : List Byte} (h : p.Runs ds rs q) : rs ≠ [] := by
  cases h <;> exact List.cons_ne_nil _ _

theorem Pad.Runs.runDialogue_eq {p q : Pad} {ds rs : List Byte} (h : p.Runs ds rs q) :
    p.runDialogue ds = { replies := repliesOf rs, pad := q, log := [], error := none, covered := true } := by
  induction h with
  | go h rest ih => rw [runDialogue_go h, ih, repliesOf_cons rest.replies_ne_nil]; rfl
  | stop h => exact runDialogue_stop h

theorem converses_of_runs {i : Instr} {s : State} {bytes rs : List Byte} {q : Pad} (hexec : exec i s = padDialogue bytes s)
    (h : s.pad.Runs bytes rs q) : converses i s (repliesOf rs) q := by
  have hrun := h.runDialogue_eq
  refine ⟨_, hexec.trans (padDialogue_eq_next.2 ⟨?_, rfl⟩), ?_⟩
  · rw [hrun]
  · rw [hrun]
    exact ⟨rfl, rfl, List.append_nil _, rfl, rfl, rfl, rfl, rfl⟩

/-! ## The header (R270, R271, R280, R281) -/

/-- The pad that has latched the command of a dialogue in that mode. -/
def Pad.begun (p : Pad) (mode : PadMode) (cmd : Byte) : Pad := { p with cmd := cmd, mode := mode, pendingSwitch := .none }

/-- The pad in a dialogue that has come to a step. -/
def Pad.atStep (p : Pad) (k : Nat) : Pad := { p with seq := k, ack := true }

theorem goesOn_goesOn_of_atRest {mode : PadMode} {p : Pad} (hp : atRest mode p) (cmd : Byte) :
    goesOn (goesOn { p with cmd := cmd }) = (p.begun mode cmd).atStep 2 := by
  obtain ⟨_, hmode, hseq, hpending⟩ := hp
  simp only [goesOn, Pad.atStep, Pad.begun, hmode, hseq, hpending]

/-- A Normal-mode dialogue is its two header steps, the first answered by the analog flag, and the run after them. -/
theorem converses_normal {i : Instr} {s : State} {q : Pad} {cmd d1 : Byte} {ds rs : List Byte} {analog : Bool}
    (hexec : exec i s = padDialogue (cmd :: d1 :: ds) s) (hp : atRest .normal s.pad) (hanalog : s.pad.analog = analog)
    (h : ((s.pad.begun .normal cmd).atStep 2).Runs ds rs q) :
    converses i s (repliesOf ((if analog then 0x73 else 0x41) :: 0x5A :: rs)) q := by
  rw [← goesOn_goesOn_of_atRest hp] at h
  obtain ⟨hconnected, hmode, hseq, _⟩ := hp
  have h0 : s.pad.NormalAt 0 := ⟨hconnected, hmode, hseq⟩
  have h1 : (goesOn { s.pad with cmd := cmd }).NormalAt 1 := ⟨hconnected, hmode, congrArg (· + 1) hseq⟩
  exact converses_of_runs hexec (.go (hanalog ▸ h0.gives_identification cmd) (.go (h1.gives_ready d1) h))

/-- A Config-mode dialogue is its two header steps and the run of its data steps. -/
theorem converses_config {i : Instr} {s : State} {q : Pad} {cmd d1 : Byte} {ds rs : List Byte}
    (hexec : exec i s = padDialogue (cmd :: d1 :: ds) s) (hp : atRest .config s.pad)
    (h : ((s.pad.begun .config cmd).atStep 2).Runs ds rs q) : converses i s (repliesOf (0xF3 :: 0x5A :: rs)) q := by
  rw [← goesOn_goesOn_of_atRest hp] at h
  obtain ⟨hconnected, hmode, hseq, _⟩ := hp
  have hready := Pad.gives_configReady (p := goesOn { s.pad with cmd := cmd }) hconnected hmode (congrArg (· + 1) hseq) d1
  exact converses_of_runs hexec (.go (Pad.gives_configIdentification hconnected hmode hseq cmd) (.go hready h))

/-! ## Normal mode (R300, R301) -/

theorem Pad.normalAt_begun {p : Pad} (hp : atRest .normal p) (cmd : Byte) : ((p.begun .normal cmd).atStep 2).NormalAt 2 :=
  ⟨hp.1, rfl, rfl⟩

theorem Pad.NormalAt.next {p : Pad} {k : Nat} (hp : p.NormalAt k) : (goesOn p).NormalAt (k + 1) :=
  ⟨hp.connected, hp.mode, congrArg (· + 1) hp.seq⟩

/-- The buttons and axes an analog pad answers from step 3 on, whatever the command. -/
theorem Pad.NormalAt.runs_analog {p : Pad} (hp : p.NormalAt 3) (hanalog : p.analog = true) (d3 d4 d5 d6 d7 : Byte)
    (rest : List Byte) :
    p.Runs (d3 :: d4 :: d5 :: d6 :: d7 :: rest) [buttonsHigh p.buttons, p.rightX, p.rightY, p.leftX, p.leftY] (ends p) :=
  .go (hp.gives_buttonsHigh_analog hanalog d3) <| .go (hp.next.gives_rightX d4) <| .go (hp.next.next.gives_rightY d5) <|
    .go (hp.next.next.next.gives_leftX d6) <| .stop (hp.next.next.next.next.gives_leftY d7)

/-- Settles O44: step 2 answers the low buttons to any command but 0x43; then a digital pad ends, and an analog one goes on. -/
theorem pollDialogue : Obligations.PollDialogue := by
  unfold Obligations.PollDialogue
  intro b0 data s hp hb0
  have hat := Pad.normalAt_begun hp b0
  have hlow (d : Byte) := hat.gives_buttonsLow (d := d) fun h => hb0 h.1
  refine ⟨fun hdigital hlen => ?digital, fun hanalog hlen => ?analog⟩
  case digital =>
    match data, hlen with
    | d1 :: d2 :: d3 :: rest, _ =>
      exact converses_normal rfl hp hdigital (.go (hlow d2) (.stop (hat.next.gives_buttonsHigh_digital hdigital d3)))
  case analog =>
    match data, hlen with
    | d1 :: d2 :: d3 :: d4 :: d5 :: d6 :: d7 :: rest, _ =>
      exact converses_normal rfl hp hanalog (.go (hlow d2) (hat.next.runs_analog hanalog d3 d4 d5 d6 d7 rest))

/-- Settles O45: command 0x43 cuts a digital dialogue off at step 2, and there schedules the switch of an analog one for data byte 1. -/
theorem configEntryDialogue : Obligations.ConfigEntryDialogue := by
  unfold Obligations.ConfigEntryDialogue
  intro d1 d2 rest s hp
  have hat := Pad.normalAt_begun hp 0x43
  refine ⟨fun hdigital => ?digital, fun hanalog hlen => ?analog⟩
  case digital => exact converses_normal rfl hp hdigital (.stop (hat.gives_abort rfl hdigital d2))
  case analog =>
    match rest, hlen with
    | d3 :: d4 :: d5 :: d6 :: d7 :: rest, _ =>
      refine converses_normal rfl hp hanalog ?_
      by_cases hd2 : d2 = 0x01
      case pos =>
        subst hd2
        have hswitch : Pad.NormalAt (goesOn { (s.pad.begun .normal 0x43).atStep 2 with pendingSwitch := .toConfig }) 3 :=
          ⟨hat.next.connected, rfl, rfl⟩
        exact .go (hat.gives_switch rfl hanalog) (hswitch.runs_analog hanalog d3 d4 d5 d6 d7 rest)
      case neg =>
        have hstay : ¬(s.pad.analog = false ∨ d2 = 0x01) := not_or.2 ⟨by simp [hanalog], hd2⟩
        rw [if_neg hd2]
        exact .go (hat.gives_buttonsLow fun h => hstay h.2) (hat.next.runs_analog hanalog d3 d4 d5 d6 d7 rest)

/-! ## Config mode (R302 to R305) -/

/-- A connected pad in a Config-mode dialogue with that command. -/
structure Pad.InConfig (p : Pad) (cmd : Byte) : Prop where
  connected : p.connected = true
  mode : p.mode = .config
  command : p.cmd = cmd

theorem Pad.inConfig_begun {p : Pad} (hp : atRest .config p) (cmd : Byte) : (p.begun .config cmd).InConfig cmd :=
  ⟨hp.1, rfl, rfl⟩

theorem Pad.InConfig.configData {p : Pad} {cmd : Byte} (hp : p.InConfig cmd) {k : Nat} (hge : 2 ≤ k) (hle : k ≤ 7) :
    (p.atStep k).ConfigData cmd :=
  ⟨hp.connected, hp.mode, hge, hle, hp.command⟩

theorem Pad.Runs.data {p next q : Pad} {d r : Byte} {ds rs : List Byte} {k : Nat} (h : (p.atStep k).GivesData d r next)
    (rest : (next.atStep (k + 1)).Runs ds rs q) (hk : k ≠ 7 := by decide) (hseq : next.seq = k := by rfl) :
    (p.atStep k).Runs (d :: ds) (r :: rs) q := by
  subst hseq
  have hgo : nextPad next = next.atStep (next.seq + 1) := if_neg hk
  have hack : decide ((p.atStep next.seq).seq ≠ 7) = true := decide_eq_true hk
  rw [GivesData, hgo, hack] at h
  exact .go h rest

/-- Data steps that write no register and answer by the step alone, up to the end of the dialogue. -/
theorem Pad.runs_reads {p : Pad} {r : Nat → Byte} {k : Nat} (ds : List Byte)
    (hrow : ∀ j, k ≤ j → j ≤ 7 → ∀ d, (p.atStep j).GivesData d (r j) (p.atStep j)) (hlen : k + ds.length = 7) (d : Byte) :
    (p.atStep k).Runs (d :: ds) ((List.range' k (ds.length + 1)).map r) (ends p) := by
  induction ds generalizing k d with
  | nil =>
    obtain rfl : k = 7 := hlen
    exact .stop (hrow 7 le_rfl le_rfl d)
  | cons d' ds ih =>
    rw [List.length_cons] at hlen
    exact .data (hrow k le_rfl (by omega) d) (ih (fun j hj => hrow j (by omega)) (by omega) d') (by omega)

/-- Settles O46: no data step of the three commands writes a register. -/
theorem configReadDialogues : Obligations.ConfigReadDialogues := by
  unfold Obligations.ConfigReadDialogues
  intro d1 d2 d3 d4 d5 d6 d7 s hp
  have hin := Pad.inConfig_begun hp
  refine ⟨?c42, ?c45, ?c47⟩
  case c42 =>
    exact converses_config rfl hp
      (Pad.runs_reads [d3, d4, d5, d6, d7] (fun _ hge hle d => ((hin _).configData hge hle).gives_inputs d) rfl d2)
  case c45 =>
    exact converses_config rfl hp
      (Pad.runs_reads [d3, d4, d5, d6, d7] (fun _ hge hle d => ((hin _).configData hge hle).gives_status d) rfl d2)
  case c47 =>
    exact converses_config rfl hp
      (Pad.runs_reads [d3, d4, d5, d6, d7] (fun _ hge hle d => ((hin _).configData hge hle).gives_constants d) rfl d2)

/-- From step 3 on, command 0x43 answers 0 and writes no register. -/
theorem Pad.InConfig.runs_noExit {p : Pad} (hp : p.InConfig 0x43) (d3 d4 d5 d6 d7 : Byte) :
    (p.atStep 3).Runs [d3, d4, d5, d6, d7] [0, 0, 0, 0, 0] (ends p) :=
  runs_reads (r := fun _ => 0) [d4, d5, d6, d7]
    (fun _ hge hle _ => (hp.configData (by omega) hle).gives_noExit fun h => absurd h.1 (ne_of_gt hge)) rfl d3

/-- From step 4 on, command 0x44 answers 0 and writes no register. -/
theorem Pad.InConfig.runs_ledIdle {p : Pad} (hp : p.InConfig 0x44) (d4 d5 d6 d7 : Byte) :
    (p.atStep 4).Runs [d4, d5, d6, d7] [0, 0, 0, 0] (ends p) :=
  runs_reads (r := fun _ => 0) [d5, d6, d7]
    (fun _ hge hle _ => (hp.configData (by omega) hle).gives_ledIdle (ne_of_gt (Nat.lt_of_succ_lt hge)) fun h =>
      absurd h.1 (ne_of_gt hge)) rfl d4

/-- Settles O47: the data byte of step 2 decides the exit, that of step 3 the commit of the LED value of step 2. -/
theorem configExitAndLedDialogues : Obligations.ConfigExitAndLedDialogues := by
  unfold Obligations.ConfigExitAndLedDialogues
  intro d1 d2 d3 d4 d5 d6 d7 s hp
  have hin := Pad.inConfig_begun hp
  have h2 (cmd : Byte) := (hin cmd).configData (k := 2) (by decide) (by decide)
  refine ⟨converses_config rfl hp ?c43, converses_config rfl hp ?c44⟩
  case c43 =>
    by_cases hd2 : d2 = 0
    case pos =>
      subst hd2
      have hexit : Pad.InConfig { (s.pad.begun .config 0x43).atStep 2 with pendingSwitch := .toNormal } 0x43 := ⟨hp.1, rfl, rfl⟩
      exact .data ((h2 0x43).gives_exit rfl) (hexit.runs_noExit d3 d4 d5 d6 d7)
    case neg =>
      rw [if_neg hd2, if_neg hd2]
      exact .data ((h2 0x43).gives_noExit fun h => hd2 h.2) ((hin 0x43).runs_noExit d3 d4 d5 d6 d7)
  case c44 =>
    have hstaged : Pad.InConfig { (s.pad.begun .config 0x44).atStep 2 with ledPending := d2 } 0x44 := ⟨hp.1, rfl, rfl⟩
    have h3 := hstaged.configData (k := 3) (by decide) (by decide)
    refine .data ((h2 0x44).gives_ledStage rfl d2) ?_
    by_cases hd3 : d3 = 0x02
    case pos =>
      subst hd3
      have hcommitted : Pad.InConfig { (s.pad.begun .config 0x44).atStep 2 with ledPending := d2, led := d2 } 0x44 :=
        ⟨hp.1, rfl, rfl⟩
      exact .data (h3.gives_ledCommit rfl) (hcommitted.runs_ledIdle d4 d5 d6 d7)
    case neg =>
      rw [if_neg hd3]
      exact .data (h3.gives_ledIdle nofun fun h => hd3 h.2) (hstaged.runs_ledIdle d4 d5 d6 d7)

/-- Command 0x46 by its selector, from step 3 on (R291). -/
theorem info46_steps (sel : Byte) :
    [info46 sel 3, info46 sel 4, info46 sel 5, info46 sel 6, info46 sel 7] =
      0 :: if sel = 0 then [1, 2, 0, 0x0A] else if sel = 1 then [1, 1, 1, 0x14] else [0, 0, 0, 0] := by
  simp only [info46_eq_getD]
  by_cases h0 : sel = 0
  case pos => simp only [if_pos h0]; rfl
  by_cases h1 : sel = 1
  case pos => simp only [if_neg h0, if_pos h1]; rfl
  case neg => simp only [if_neg h0, if_neg h1]; rfl

/-- Settles O48: step 2 latches the selector, and the steps after it answer from it. -/
theorem configSelectorDialogues : Obligations.ConfigSelectorDialogues := by
  unfold Obligations.ConfigSelectorDialogues
  intro d1 d2 d3 d4 d5 d6 d7 s hp
  have h2 (cmd : Byte) := (Pad.inConfig_begun hp cmd).configData (k := 2) (by decide) (by decide)
  have hsel (cmd : Byte) : Pad.InConfig { (s.pad.begun .config cmd).atStep 2 with sel := d2 } cmd := ⟨hp.1, rfl, rfl⟩
  refine ⟨?c46, ?c4C⟩
  case c46 =>
    show converses _ _ (repliesOf ([0xF3, 0x5A, 0] ++ 0 :: if d2 = 0 then _ else _)) _
    rw [← info46_steps]
    exact converses_config rfl hp (.data ((h2 0x46).gives_infoSelector rfl d2)
      (Pad.runs_reads [d4, d5, d6, d7]
        (fun _ hge hle d => ((hsel 0x46).configData (by omega) hle).gives_info (ne_of_gt hge) d) rfl d3))
  case c4C =>
    exact converses_config rfl hp (.data ((h2 0x4C).gives_typeSelector rfl d2)
      (Pad.runs_reads [d4, d5, d6, d7]
        (fun _ hge hle d => ((hsel 0x4C).configData (by omega) hle).gives_type (ne_of_gt hge) d) rfl d3))

/-- A step of command 0x4D, by its slot (R296). -/
theorem Pad.InConfig.gives_slot {p : Pad} (hp : p.InConfig 0x4D) (v : Vector Byte 6) {i : Nat} (hi : i < 6) (d : Byte) {old : Byte}
    (hold : v[i] = old) :
    (Pad.atStep { p with rumble := v } (i + 2)).GivesData d old (Pad.atStep { p with rumble := v.set i d } (i + 2)) := by
  subst hold
  have hq : Pad.InConfig { p with rumble := v } 0x4D := ⟨hp.connected, hp.mode, hp.command⟩
  exact (hq.configData (k := i + 2) (by omega) (by omega)).gives_rumble hi d

/-- The slots before the last: the dialogue goes on. -/
theorem Pad.InConfig.runs_slot {p q : Pad} (hp : p.InConfig 0x4D) {v : Vector Byte 6} {i : Nat} (hi : i < 5) {d old : Byte}
    {ds rs : List Byte} (hold : v[i] = old) (rest : (Pad.atStep { p with rumble := v.set i d } (i + 3)).Runs ds rs q) :
    (Pad.atStep { p with rumble := v } (i + 2)).Runs (d :: ds) (old :: rs) q :=
  .data (hp.gives_slot v (by omega) d hold) rest (by omega)

theorem rumble_set_slots (v : Vector Byte 6) (a b c d e f : Byte) :
    (((((v.set 0 a).set 1 b).set 2 c).set 3 d).set 4 e).set 5 f = #v[a, b, c, d, e, f] := by
  ext i hi
  simp only [Vector.getElem_set]
  interval_cases i <;> rfl

/-- No slot is written before it is read. -/
theorem Pad.InConfig.runs_rumble {p : Pad} (hp : p.InConfig 0x4D) (d2 d3 d4 d5 d6 d7 : Byte) :
    (p.atStep 2).Runs [d2, d3, d4, d5, d6, d7]
      [p.rumble[0], p.rumble[1], p.rumble[2], p.rumble[3], p.rumble[4], p.rumble[5]]
      (ends { p with rumble := #v[d2, d3, d4, d5, d6, d7] }) := by
  rw [← rumble_set_slots p.rumble]
  refine hp.runs_slot (i := 0) (by decide) rfl ?_
  refine hp.runs_slot (i := 1) (by decide) (by simp) ?_
  refine hp.runs_slot (i := 2) (by decide) (by simp) ?_
  refine hp.runs_slot (i := 3) (by decide) (by simp) ?_
  refine hp.runs_slot (i := 4) (by decide) (by simp) ?_
  exact .stop (hp.gives_slot _ (i := 5) (by decide) d7 (by simp))

/-- Settles O49: the slot of a step is read before it is written, and no other step of the dialogue touches it. -/
theorem rumbleDialogueExchangesSlots : Obligations.RumbleDialogueExchangesSlots := by
  unfold Obligations.RumbleDialogueExchangesSlots
  intro d1 d2 d3 d4 d5 d6 d7 s hp
  exact converses_config rfl hp ((Pad.inConfig_begun hp 0x4D).runs_rumble d2 d3 d4 d5 d6 d7)

/-! ## A disconnected pad (R261) -/

theorem exec_of_encode_dialogue {i : Instr} {mode : PadMode} {bytes : List Byte} (h : encode i = .dialogue mode bytes) (s : State) :
    exec i s = padDialogue bytes s ∧ bytes ≠ [] := by
  cases i
  case padNPoll | padNCfg | padC42 | padC43 | padC44 | padC45 | padC46 | padC47 | padC4C | padC4D =>
    cases h
    exact ⟨rfl, List.cons_ne_nil _ _⟩
  all_goals cases h

/-- Settles O50: the first exchange of each of the ten dialogues already refuses the acknowledge. -/
theorem dialoguesOnDisconnectedPad : Obligations.DialoguesOnDisconnectedPad := by
  unfold Obligations.DialoguesOnDisconnectedPad
  intro i mode bytes s hi hs
  obtain ⟨hexec, hbytes⟩ := exec_of_encode_dialogue hi s
  obtain ⟨d, ds, rfl⟩ := List.exists_cons_of_ne_nil hbytes
  exact converses_of_runs hexec (.stop (Pad.gives_disconnected hs d))

end Sys2Proof.Machine
end

section
/-! The input side of the pad (spec/45_pad_input.md R310 to R323): what a poll writes into the buttons register, the axis bytes and
the analog flag, which snapshots it refuses, and the connectivity flag. -/

namespace Sys2Proof.Machine

/-! ## Connectivity (R319) and unknown devices (R312) -/

/-- Settles O53. -/
theorem connectWritesConnectivityOnly : Obligations.ConnectWritesConnectivityOnly := by
  unfold Obligations.ConnectWritesConnectivityOnly
  exact fun _ _ => rfl

theorem exec_poll (snap : Snapshot) (s : State) : exec (.poll snap) s = pollWith (Config.profileOf snap.name) snap s := rfl

/-- Settles O51: the arm of `pollWith` for a device without a profile. -/
theorem pollOfUnknownDeviceIgnored : Obligations.PollOfUnknownDeviceIgnored := by
  unfold Obligations.PollOfUnknownDeviceIgnored
  intro snap s hunknown
  rw [exec_poll]
  exact pollWith_eq_next.2 (.inl ⟨hunknown, rfl⟩)

/-! ## Buttons (R314) -/

theorem setButton_getLsbD (b : Half) (k m : Fin 16) (held : Bool) :
    (setButton b k held).getLsbD m.val = if m = k then !held else b.getLsbD m.val := by
  have hbit : (1#16 <<< k.val).getLsbD m.val = decide (m = k) := by
    revert k m; decide
  cases held with
  | true =>
    simp only [setButton, if_true, BitVec.getLsbD_and, BitVec.getLsbD_not, hbit]
    by_cases h : m = k <;> simp [h]
  | false =>
    simp only [setButton, Bool.false_eq_true, if_false, BitVec.getLsbD_or, hbit]
    by_cases h : m = k <;> simp [h]

theorem pollButtons_getLsbD_of_unmapped {btn : List (Nat × Fin 16)} {k : Fin 16} (hk : k ∉ btn.map Prod.snd) (snap : Snapshot)
    (b : Half) : (pollButtons btn snap b).getLsbD k.val = b.getLsbD k.val := by
  induction btn generalizing b with
  | nil => rfl
  | cons entry rest ih =>
    obtain ⟨hne, hrest⟩ := not_or.1 (List.mem_cons.not.1 hk)
    rw [pollButtons, ih hrest, setButton_getLsbD, if_neg hne]

/-- A mapped bit is written once, since no later entry maps to it. -/
theorem pollButtons_getLsbD_of_mapped {btn : List (Nat × Fin 16)} (hinj : (btn.map Prod.snd).Nodup) {i : Nat} {k : Fin 16}
    (hik : (i, k) ∈ btn) (snap : Snapshot) (b : Half) :
    (pollButtons btn snap b).getLsbD k.val = decide (i ∉ snap.down) := by
  induction btn generalizing b with
  | nil => cases hik
  | cons entry rest ih =>
    obtain ⟨hfresh, hrest⟩ := List.nodup_cons.1 hinj
    rw [pollButtons]
    cases hik with
    | head => rw [pollButtons_getLsbD_of_unmapped hfresh, setButton_getLsbD, if_pos rfl, heldIn, decide_not]
    | tail _ hmem => exact ih hrest hmem _

/-! ## Axes (R315, R318) -/

theorem axisOf_eq_some {snap : Snapshot} {i : Nat} {b : Byte} :
    axisOf snap i = some b ↔ ∃ a, axisValue snap i a ∧ a.inRange = true ∧ axisByte a = b := by
  unfold axisOf axisValue
  cases (snap.axes.lookup i).or snap.restAxes with
  | none => simp
  | some a => simp

/-- Over a positive denominator, floor division is bounded as the truncation of R318 asks; 255 is the byte of `v = 1`. -/
theorem isAxisByte_axisByte {a : AxisValue} (ha : a.inRange = true) : isAxisByte a (axisByte a) := by
  obtain ⟨hden, hlow, hhigh⟩ := of_decide_eq_true ha
  obtain ⟨n, hn⟩ := Int.eq_ofNat_of_zero_le (show 0 ≤ a.num + (a.den : Int) by omega)
  have hle : 255 * n / (2 * a.den) ≤ 255 := Nat.div_le_of_le_mul (by nlinarith)
  have hbyte : (axisByte a).toNat = 255 * n / (2 * a.den) := by
    rw [axisByte, hn, Int.toNat_natCast, BitVec.toNat_ofNat, Nat.mod_eq_of_lt (by omega)]
  have hfloor := Nat.div_mul_le_self (255 * n) (2 * a.den)
  have hceil := Nat.lt_mul_div_succ (255 * n) (show 0 < 2 * a.den by omega)
  rw [isAxisByte, hbyte, hn]
  generalize 255 * n / (2 * a.den) = byte at hfloor hceil
  constructor
  · have : 2 * byte * a.den ≤ 255 * n := by linarith
    exact_mod_cast this
  · have : 255 * n < 2 * (byte + 1) * a.den := by linarith
    exact_mod_cast this

theorem isAxisByte_of_axisOf {snap : Snapshot} {i : Nat} {b : Byte} (h : axisOf snap i = some b) :
    ∃ a, axisValue snap i a ∧ isAxisByte a b := by
  obtain ⟨a, hvalue, hrange, rfl⟩ := axisOf_eq_some.1 h
  exact ⟨a, hvalue, isAxisByte_axisByte hrange⟩

/-! ## The analog toggle (R317) -/

theorem chordHeld_eq_decide (prof : Profile) (snap : Snapshot) :
    chordHeld prof snap = decide (∀ i ∈ prof.chord, i ∈ snap.down) := by
  rw [Bool.eq_iff_iff]
  simp [chordHeld, heldIn]

theorem toggle_eq_xor (edge analog : Bool) : (if edge then !analog else analog) = (analog ^^ edge) := by
  cases edge <;> simp

/-! ## The contract of a poll (R318, R323) -/

/-- A poll takes effect exactly for a snapshot that gives the four axes of the profile. -/
theorem exists_pollPad_eq_some_iff {prof : Profile} {snap : Snapshot} {p : Pad} :
    (∃ q, pollPad prof snap p = some q) ↔ coversAxes prof snap := by
  have hcovers (i : Nat) : (∃ a, axisValue snap i a ∧ a.inRange = true) ↔ ∃ b, axisOf snap i = some b := by
    simp only [axisOf_eq_some]
    exact ⟨fun ⟨a, hvalue, hrange⟩ => ⟨_, a, hvalue, hrange, rfl⟩, fun ⟨_, a, hvalue, hrange, _⟩ => ⟨a, hvalue, hrange⟩⟩
  simp only [coversAxes, hcovers, pollPad_eq_some, List.mem_cons, List.not_mem_nil, or_false, forall_eq_or_imp,
    forall_eq]
  constructor
  · rintro ⟨_, rx, ry, lx, ly, hrx, hry, hlx, hly, _⟩
    exact ⟨⟨rx, hrx⟩, ⟨ry, hry⟩, ⟨lx, hlx⟩, ⟨ly, hly⟩⟩
  · rintro ⟨⟨rx, hrx⟩, ⟨ry, hry⟩, ⟨lx, hlx⟩, ⟨ly, hly⟩⟩
    exact ⟨_, rx, ry, lx, ly, hrx, hry, hlx, hly, rfl⟩

theorem pollWith_refused {prof : Profile} {snap : Snapshot} (h : ¬coversAxes prof snap) (s : State) :
    pollWith (some prof) snap s = .refused .axisOutsideContract := by
  have hnone : pollPad prof snap s.pad = none :=
    Option.eq_none_iff_forall_ne_some.2 fun q hq => h (exists_pollPad_eq_some_iff.1 ⟨q, hq⟩)
  simp only [pollWith, hnone]

/-- Settles O52: by whether the device has a profile; with one, each register by its own rule. -/
theorem pollUpdatesInputRegisters : Obligations.PollUpdatesInputRegisters := by
  unfold Obligations.PollUpdatesInputRegisters
  intro snap s
  refine ⟨fun hcovers => ?completes, fun _ hlacks => pollWith_refused hlacks s, exec_poll snap s⟩
  rw [exec_poll]
  cases hprof : Config.profileOf snap.name with
  | none => exact ⟨_, pollWith_eq_next.2 (.inl ⟨rfl, rfl⟩), ⟨rfl, rfl, rfl, rfl, rfl⟩, rfl, rfl, rfl⟩
  | some prof =>
    obtain ⟨q, hq⟩ := exists_pollPad_eq_some_iff (p := s.pad).2 (hcovers prof hprof)
    refine ⟨_, pollWith_eq_next.2 (.inr ⟨prof, q, rfl, hq, rfl⟩), ⟨rfl, rfl, rfl, rfl, rfl⟩, rfl, rfl, ?_⟩
    obtain ⟨rx, ry, lx, ly, hrx, hry, hlx, hly, rfl⟩ := pollPad_eq_some.1 hq
    exact ⟨fun i k hik => pollButtons_getLsbD_of_mapped prof.btn_injective hik snap _,
      fun k hk => pollButtons_getLsbD_of_unmapped hk snap _,
      isAxisByte_of_axisOf hrx, isAxisByte_of_axisOf hry, isAxisByte_of_axisOf hlx, isAxisByte_of_axisOf hly,
      chordHeld_eq_decide prof snap, toggle_eq_xor _ _, rfl⟩

end Sys2Proof.Machine
end

section
/-! Reset and the hazards of an invocation (spec/70_reset_and_hazards.md): the values the three units come up with (R371 to R375), that
they satisfy the invariant, and what a bus write answers while the transfer engine runs (R390). -/

namespace Sys2Proof.Machine

/-! ## The reset state (R371 to R375) -/

/-- The seven channels come up alike (R371). -/
theorem Dma.chan_reset (n : Chan) : Dma.reset.chan n = Channel.reset :=
  Vector.getElem_replicate n.isLt

/-- The reset count is the largest legal one, the one a register image of 0 stands for; not being enabled, the channel is inactive. -/
theorem Channel.inv_reset : Channel.reset.inv :=
  have hcount : 1 ≤ 0x10000 := by decide
  have hinactive : ¬Channel.reset.active := fun ⟨henabled, _⟩ => Bool.false_ne_true henabled
  ⟨hcount, le_rfl, hcount, le_rfl, hinactive⟩

theorem Dma.inv_reset : Dma.reset.inv :=
  ⟨fun n => (chan_reset n).symm ▸ Channel.inv_reset, rfl, rfl⟩

/-- The pad comes up in Normal mode before the first byte of a dialogue, with no switch pending. -/
theorem Pad.inv_reset : Pad.reset.inv :=
  ⟨Nat.zero_le 7, fun _ => rfl, nofun, nofun, nofun⟩

/-- Settles O56: each unit's part of the invariant at its own reset value; an empty buffer is the assembler's whole part. -/
theorem resetHoldsInvariant : Obligations.ResetHoldsInvariant := by
  unfold Obligations.ResetHoldsInvariant
  have hgpa : Gpa.reset.inv := rfl
  exact State.inv_iff.2 ⟨Dma.inv_reset, hgpa, Pad.inv_reset⟩

/-- Settles O58: every channel by `Dma.chan_reset`, the other fields as the reset record gives them. -/
theorem resetRegisterValues : Obligations.ResetRegisterValues := by
  unfold Obligations.ResetRegisterValues
  exact ⟨rfl, Dma.chan_reset, rfl, rfl, rfl, rfl, rfl, rfl, rfl, rfl, rfl, rfl⟩

/-! ## Bus writes inside an invocation (R390) -/

/-- With legal sync bits a control write passes its own check and reaches the test for an invocation (Log 7). -/
theorem ctrlWrite_inCallback {n : Chan} {v : Word} {s : State} (hcall : s.dma.inCallback = true) (hsync : v.extractLsb' 9 2 ≠ 3) :
    ctrlWrite n v s = .refused .busWriteInCallback := by
  unfold ctrlWrite
  rw [SyncMode.ofBits_of_ne_reserved hsync]
  exact if_pos hcall

/-- Settles O22: a bus write of a register is a channel write, a global write or a control write, and each tests for an invocation before
it stores. -/
theorem busWritesInsideInvocationRefused : Obligations.BusWritesInsideInvocationRefused := by
  unfold Obligations.BusWritesInsideInvocationRefused
  intro i s haccepted hcall
  cases i
  case wr32Base | wr16Base | wr32Block | wr16Block => exact channelWrite_inCallback hcall
  case wr32Dpcr v => exact busWrite_inCallback (f := fun d => { d with dpcr := v }) hcall
  case wr16Dpcr h => exact busWrite_inCallback (f := fun d => { d with dpcr := widen h }) hcall
  case wr32Dicr | wr16DicrL | wr16DicrH | wr8Dicr0 | wr8Dicr1 | wr8Dicr2 | wr8Dicr3 => exact busWrite_inCallback hcall
  case wr32Ctrl n v => exact ctrlWrite_inCallback hcall (bne_iff_ne.1 haccepted)
  case wr16Ctrl n h =>
    have hsync : (widen h).extractLsb' 9 2 ≠ 3 := widen_sync h ▸ bne_iff_ne.1 haccepted
    exact ctrlWrite_inCallback hcall hsync
  -- What is left are the operations that are no accepted bus write.
  all_goals cases haccepted

end Sys2Proof.Machine
end
